-- ==== Sys2Proof/Word.lean ====
section
/-! DEFINITION. The plain types of the core: bytes, pin levels, byte memories.
Bit numbering is that of 00_scope.md R12: bit 0 is the least significant bit; every value is unsigned. -/

namespace Sys2Proof

/-- A byte, bits 7 down to 0 (00_scope.md R12). -/
abbrev Byte := BitVec 8

/-- The level of an output pin: `low` is 0, `high` is 1 (10_state.md R30). -/
inductive Level where
  | low
  | high
  deriving DecidableEq, Repr, Inhabited

/-- A byte memory as a list of (address, byte) cells in one canonical form: addresses strictly rising, no
cell that holds what an unlisted address reads as. The operations on it are in `Machine/Ops.lean`. -/
abbrev Memory := List Host.Cell

/-- The canvas of the host, addressed `g*256 + x` for row-group `g` and column `x` (20_memory.md R53), as an
operand of TRANSFORM and SHOW (10_state.md R28; log 18). -/
abbrev Canvas := Memory

/-- The transport's own error value, "which the core passes on without looking at it" (41_protocol_engine.md
R127). Only equality of tokens means anything (log 22). -/
structure Token where
  value : Nat
  deriving DecidableEq, Repr, Inhabited

/-- What the transport reports for one write (41_protocol_engine.md R125): all bytes shifted out (R126); a
failure after the first `k` bytes with the transport's token (R127); or no return at all (R128). -/
inductive TxOutcome where
  | ok
  | fail (k : Nat) (e : Token)
  | never
  deriving DecidableEq, Repr, Inhabited

end Sys2Proof
end

