-- ==== Sys2Proof/Config.lean ====
section
/-! DEFINITION. What is fixed for one machine: the constants of 00_scope.md R9, the open parameters of R10 as
constants without a body, and the free values. -/

namespace Sys2Proof

/-! ### Constants the document prints (00_scope.md R9) -/

def romDepth : Nat := 256
def gramBytes : Nat := 4096
def gramCols : Nat := 512
def gramColBytes : Nat := 8
def gramVisibleBytes : Nat := 6
def canvasCols : Nat := 256
def canvasGroups : Nat := 6
def canvasBytes : Nat := 1536
def dup : Nat := 2
def triggerAddr : Nat := 0
def triggerValue : Byte := 0xFF
def offsetX : Byte := 0x00
def offsetY : Byte := 0x38
def displayModeInit : Byte := 0x00
def rstLowMs : Nat := 10
def rstSettleMs : Nat := 50
def swResetMs : Nat := 50
def clearMs : Nat := 20
def vfdModeBytes : Nat := 7

/-- What an address that a `Memory` does not list reads as. Of the canvas it is only the way a list stands for
1536 bytes (log 18); of GRAM it is also what a byte reads as that no operation has written since reset, which
the spec leaves unspecified (10_state.md R27; log 12, a DESIGN CHOICE). -/
def unlistedByte : Byte := 0x00

/-- `x_start` and `y_start` of the writes INIT and SHOW issue (the spec's decision D8). -/
def startCoord : Byte := 0x00

/-! ### The ten opcodes (00_scope.md R10, 30_encoding.md R89, R90) -/

/-- The names of the command table (30_encoding.md R89). -/
inductive Command where
  | reset
  | frameSync
  | brightness
  | displayMode
  | displayOffset
  | vfdMode
  | osc
  | enterStandby
  | exitStandby
  | writeGram
  deriving DecidableEq, Repr

/-- The ten commands, in the table's order. -/
def Command.all : List Command :=
  [.reset, .frameSync, .brightness, .displayMode, .displayOffset, .vfdMode, .osc, .enterStandby, .exitStandby,
    .writeGram]

/-- The place of a command in the table, as a byte. -/
def Command.index : Command → Byte
  | .reset => 0
  | .frameSync => 1
  | .brightness => 2
  | .displayMode => 3
  | .displayOffset => 4
  | .vfdMode => 5
  | .osc => 6
  | .enterStandby => 7
  | .exitStandby => 8
  | .writeGram => 9

/-- A free one-to-one map of bytes. Its values at the ten indexes are the opcodes, so every choice of ten
pairwise distinct bytes is possible and no other (30_encoding.md R90; log 8). -/
opaque Config.opcodeMap : Equiv.Perm Byte

/-- The opcode parameter `OP_<command>`: a byte the document does not print. -/
def Command.op (c : Command) : Byte := Config.opcodeMap c.index

/-! ### The other parameters (00_scope.md R10; log 9) -/

/-- `VFD_MODE_CFG[0..6]`: entry `i` for `i` below 7. -/
opaque Config.vfdModeByte : Nat → Byte

/-- `OSC_CFG`. -/
opaque Config.oscCfg : Byte

/-- The default of `SCK_HZ`, the one default the document prints (00_scope.md R10). No rule depends on it. -/
def sckHzDefault : ℕ+ := 500000

/-- Pin assignment, one for each control, clock and data line; opaque identities (10_state.md R29). -/
structure PinMap where
  csN : Nat
  rstN : Nat
  filEn : Nat
  sck : Nat
  mosi : Nat
  deriving DecidableEq, Repr, Inhabited

/-- The construction-time configuration record (10_state.md R29, 00_scope.md R11). `brightnessInit` is masked to
16 bits where it is used (45_host_operations.md R223). -/
structure ConfigRecord where
  peripheral : Nat
  pins : PinMap
  sckHz : ℕ+
  brightnessInit : Nat
  deriving DecidableEq, Repr, Inhabited

/-- The record this Device was constructed with: a free value. -/
opaque Config.record : ConfigRecord

/-! ### Free values, drawn at the counter `draws` of State (log 5, log 14) -/

/-- What the transport reports for a write the environment's list says nothing of (41_protocol_engine.md R125:
"a free input (a draw) of each `Tx` step"). -/
opaque Config.txDraw : Nat → TxOutcome

/-- The level MOSI is left at by a write (93_implementation_defined.md U15: any value). -/
opaque Config.mosiLevel : Nat → Level

/-- The level SCK holds while a write never returns: no rule states it. -/
opaque Config.sckLevel : Nat → Level

end Sys2Proof
end

