-- ==== Sys2Proof/Syntax.lean ====
section
/-! DEFINITION. The instructions: the ten wire commands and the nine host operations of opcode_table.json, one
constructor per row, and the raw form in which a request reaches the core. -/

namespace Sys2Proof

/-- The instructions of the core (00_scope.md R4). -/
inductive Instr where
  /-- CMD_RESET (42_wire_commands.md R150). -/
  | cmdReset
  /-- CMD_FRAME_SYNC (R151). -/
  | cmdFrameSync
  /-- CMD_BRIGHTNESS v (R152). -/
  | cmdBrightness (v : BitVec 16)
  /-- CMD_DISPLAY_MODE m (R153). -/
  | cmdDisplayMode (m : Byte)
  /-- CMD_DISPLAY_OFFSET x, y (R154). -/
  | cmdDisplayOffset (x y : Byte)
  /-- CMD_VFD_MODE c0..c6 (R155). -/
  | cmdVfdMode (c0 c1 c2 c3 c4 c5 c6 : Byte)
  /-- CMD_OSC s (R156). -/
  | cmdOsc (setting : Byte)
  /-- CMD_ENTER_STANDBY (R157). -/
  | cmdEnterStandby
  /-- CMD_EXIT_STANDBY (R158). -/
  | cmdExitStandby
  /-- CMD_WRITE_GRAM buf, xs, ys (R159). -/
  | cmdWriteGram (buf : List Byte) (xs ys : Byte)
  /-- REVERSE b (40_bitorder_codec.md R110). -/
  | reverse (b : Byte)
  /-- REVERSE_ALL s (R114). -/
  | reverseAll (bytes : List Byte)
  /-- SEND_COMMAND op, payload (41_protocol_engine.md R130). -/
  | sendCommand (op : Byte) (payload : List Byte)
  /-- WRITE_GRAM buf, xs, ys (R135). -/
  | writeGram (buf : List Byte) (xs ys : Byte)
  /-- TRANSFORM canvas (44_gram_transformer.md R200). -/
  | transform (canvas : Canvas)
  /-- SHOW canvas (45_host_operations.md R220). -/
  | showFrame (canvas : Canvas)
  /-- SET_BRIGHTNESS v; a natural number, of which the low 16 bits count (R222, R223). -/
  | setBrightness (v : Nat)
  /-- INIT (43_init_sequencer.md R170). -/
  | init
  /-- DEINIT (R180). -/
  | deinit
  deriving DecidableEq, Repr

/-- What the host presents with a request: the 4-bit selector and the operand ports beside it (10_state.md R38,
30_encoding.md R100). An operation reads the ports its rule names and no other. -/
structure Ports where
  sel : BitVec 4
  /-- the byte of REVERSE -/
  byte : Byte
  /-- the byte stream, with its length, of REVERSE_ALL, SEND_COMMAND and WRITE_GRAM -/
  stream : List Byte
  /-- the opcode byte of SEND_COMMAND -/
  opcode : Byte
  xStart : Byte
  yStart : Byte
  /-- the canvas read port of TRANSFORM and SHOW -/
  canvas : Canvas
  /-- the brightness of SET_BRIGHTNESS -/
  brightness : BitVec 16
  deriving DecidableEq, Repr

/-- A selector with every operand port at zero. -/
def Ports.select (sel : BitVec 4) : Ports :=
  { sel := sel, byte := 0, stream := [], opcode := 0, xStart := 0, yStart := 0, canvas := [], brightness := 0 }

/-- A request as it reaches the core, at one of the two levels of opcode_table.json: a host operation by its
selector and ports, or a wire command by its natural frame, first byte and payload (30_encoding.md R80; log 1). -/
inductive Request where
  | op (ports : Ports)
  | frame (opcode : Byte) (payload : List Byte)
  deriving DecidableEq, Repr

end Sys2Proof
end

