-- ==== Sys2Proof/WellFormed.lean ====
section
/-! DEFINITION. Which instructions have an encoded form. -/

namespace Sys2Proof

/-- The canonical form of a byte memory whose unlisted addresses read as 0x00, from address `lo` on: addresses
strictly rising, no cell that holds 0x00. -/
def Memory.wfFrom : Nat → Memory → Bool
  | _, [] => true
  | lo, (a, v) :: rest => decide (lo ≤ a) && decide (v ≠ unlistedByte) && Memory.wfFrom (a + 1) rest

/-- The memory is in canonical form. -/
abbrev Memory.wf (m : Memory) : Bool := Memory.wfFrom 0 m

/-- Every listed address is below `n`. -/
def Memory.below (n : Nat) (m : Memory) : Bool := m.all fun c => decide (c.1 < n)

/-- The canvas is 1536 bytes (10_state.md R28) in canonical form (log 18). -/
def Canvas.wf (c : Canvas) : Bool := Memory.wf c && Memory.below canvasBytes c

/-- The brightness operand fits its 16-bit port (45_host_operations.md R223: as hardware the port is 16 bits
wide). The meaning of SET_BRIGHTNESS is given for every natural number all the same. -/
def brightnessFits (v : Nat) : Bool := decide (v < 65536)

/-- An instruction that a request can carry: its canvas is a canvas, its brightness fits its port. Every other
operand is a byte, a 16-bit value or a byte sequence of any length, and the core checks none of them before
the operation (30_encoding.md R91). -/
def Instr.WellFormed : Instr → Bool
  | .cmdReset => true
  | .cmdFrameSync => true
  | .cmdBrightness _ => true
  | .cmdDisplayMode _ => true
  | .cmdDisplayOffset _ _ => true
  | .cmdVfdMode _ _ _ _ _ _ _ => true
  | .cmdOsc _ => true
  | .cmdEnterStandby => true
  | .cmdExitStandby => true
  | .cmdWriteGram _ _ _ => true
  | .reverse _ => true
  | .reverseAll _ => true
  | .sendCommand _ _ => true
  | .writeGram _ _ _ => true
  | .transform c => Canvas.wf c
  | .showFrame c => Canvas.wf c
  | .setBrightness v => brightnessFits v
  | .init => true
  | .deinit => true

end Sys2Proof
end

