-- ==== Sys2Proof/Decode.lean ====
section
/-! DEFINITION. Decoding a request into an instruction, encoding an instruction as a request, and the bit-field and
byte-order helpers of both. -/

namespace Sys2Proof

/-! ### Byte-order helpers (30_encoding.md R86, 20_memory.md R58) -/

/-- `v[7:0]`. -/
def lowByte (v : BitVec 16) : Byte := v.extractLsb' 0 8

/-- `v[15:8]`. -/
def highByte (v : BitVec 16) : Byte := v.extractLsb' 8 8

/-- The 16-bit value of a little-endian pair: the first byte is the low one. -/
def wordOfBytes (lo hi : Byte) : BitVec 16 := hi.setWidth 16 <<< 8 ||| lo.setWidth 16

/-- The payload of a brightness frame, low byte first (30_encoding.md R86). -/
def brightnessPayload (v : BitVec 16) : List Byte := [lowByte v, highByte v]

/-! ### The command table (30_encoding.md R81, R89) -/

/-- The payload length of a command's frame; of write-gram, the two start bytes and the 4096 buffer bytes. -/
def Command.payloadLength : Command → Nat
  | .reset => 0
  | .frameSync => 0
  | .brightness => 2
  | .displayMode => 1
  | .displayOffset => 2
  | .vfdMode => 7
  | .osc => 1
  | .enterStandby => 0
  | .exitStandby => 0
  | .writeGram => 4098

/-- The command whose opcode a byte is, if it is one. -/
def commandOf (b : Byte) : Option Command := Command.all.find? fun c => decide (c.op = b)

/-- The instruction of a command with a payload of the table's shape; none for a payload of another shape. A
write-gram buffer of any length is an operand, because CMD_WRITE_GRAM itself checks it (42_wire_commands.md
R159). -/
def instrOfCommand : Command → List Byte → Option Instr
  | .reset, [] => some .cmdReset
  | .frameSync, [] => some .cmdFrameSync
  | .brightness, [lo, hi] => some (.cmdBrightness (wordOfBytes lo hi))
  | .displayMode, [m] => some (.cmdDisplayMode m)
  | .displayOffset, [x, y] => some (.cmdDisplayOffset x y)
  | .vfdMode, [c0, c1, c2, c3, c4, c5, c6] => some (.cmdVfdMode c0 c1 c2 c3 c4 c5 c6)
  | .osc, [setting] => some (.cmdOsc setting)
  | .enterStandby, [] => some .cmdEnterStandby
  | .exitStandby, [] => some .cmdExitStandby
  | .writeGram, xs :: ys :: buf => some (.cmdWriteGram buf xs ys)
  | _, _ => none

/-! ### Decoding -/

/-- Why a request has no instruction: a selector 0b1001 to 0b1111 "select[s] nothing" (30_encoding.md R100). -/
inductive Reject where
  | unknownSelector (sel : BitVec 4)
  deriving DecidableEq, Repr

/-- A frame of the command table is its command; any other frame is "not an illegal encoding for the core: it is
sent" (30_encoding.md R91), as SEND_COMMAND sends it (log 20). -/
def decodeFrame (opcode : Byte) (payload : List Byte) : Instr :=
  ((commandOf opcode).bind fun c => instrOfCommand c payload).getD (.sendCommand opcode payload)

/-- The operation a selector picks, with its operands from the ports (30_encoding.md R100). -/
def decodePorts (p : Ports) : Except Reject Instr :=
  match p.sel.toNat with
  | 0 => .ok (.reverse p.byte)
  | 1 => .ok (.reverseAll p.stream)
  | 2 => .ok (.sendCommand p.opcode p.stream)
  | 3 => .ok (.writeGram p.stream p.xStart p.yStart)
  | 4 => .ok (.transform p.canvas)
  | 5 => .ok (.showFrame p.canvas)
  | 6 => .ok (.setBrightness p.brightness.toNat)
  | 7 => .ok .init
  | 8 => .ok .deinit
  | _ => .error (.unknownSelector p.sel)

/-- The instruction a request asks for. -/
def decode : Request → Except Reject Instr
  | .op p => decodePorts p
  | .frame opcode payload => .ok (decodeFrame opcode payload)

/-! ### Encoding -/

/-- The frame of a command: its opcode, then its payload (30_encoding.md R80). -/
def Command.frame (c : Command) (payload : List Byte) : Request := .frame c.op payload

/-- The request that carries an instruction, from the tables of 30_encoding.md (R81, R89, R100). Ports that an
operation does not read are zero. -/
def encode : Instr → Request
  | .cmdReset => Command.reset.frame []
  | .cmdFrameSync => Command.frameSync.frame []
  | .cmdBrightness v => Command.brightness.frame (brightnessPayload v)
  | .cmdDisplayMode m => Command.displayMode.frame [m]
  | .cmdDisplayOffset x y => Command.displayOffset.frame [x, y]
  | .cmdVfdMode c0 c1 c2 c3 c4 c5 c6 => Command.vfdMode.frame [c0, c1, c2, c3, c4, c5, c6]
  | .cmdOsc setting => Command.osc.frame [setting]
  | .cmdEnterStandby => Command.enterStandby.frame []
  | .cmdExitStandby => Command.exitStandby.frame []
  | .cmdWriteGram buf xs ys => Command.writeGram.frame (xs :: ys :: buf)
  | .reverse b => .op { Ports.select 0b0000 with byte := b }
  | .reverseAll bytes => .op { Ports.select 0b0001 with stream := bytes }
  | .sendCommand op payload => .op { Ports.select 0b0010 with opcode := op, stream := payload }
  | .writeGram buf xs ys => .op { Ports.select 0b0011 with stream := buf, xStart := xs, yStart := ys }
  | .transform canvas => .op { Ports.select 0b0100 with canvas := canvas }
  | .showFrame canvas => .op { Ports.select 0b0101 with canvas := canvas }
  | .setBrightness v => .op { Ports.select 0b0110 with brightness := BitVec.ofNat 16 v }
  | .init => .op (Ports.select 0b0111)
  | .deinit => .op (Ports.select 0b1000)

/-! ### Words of the opcode table -/

/-- Byte `k` of a word whose bit 0 is the least significant bit of its first byte. -/
def byteOfWord (w k : Nat) : Byte := BitVec.ofNat 8 (w / 2 ^ (8 * k))

/-- The payload bytes of a frame word of `nbits` bits, with the zeros above `nbits` that the frame of a table
command still has: a write-gram word of 24 bits is followed by a buffer of 4096 zeros. -/
def payloadOfWord (nbits w : Nat) : List Byte :=
  let given := (List.range ((nbits + 7) / 8 - 1)).map fun k => byteOfWord w (k + 1)
  match commandOf (byteOfWord w 0) with
  | some c => given ++ List.replicate (c.payloadLength - given.length) 0
  | none => given

/-- The request that a word of the opcode table stands for. A word of at most 8 bits whose value is below 16 is a
selector with zero operands; every other word is a frame (log 3). -/
def requestOfTableWord (nbits w : Nat) : Request :=
  if nbits ≤ 8 ∧ w < 16 then .op (Ports.select (BitVec.ofNat 4 w))
  else .frame (byteOfWord w 0) (payloadOfWord nbits w)

/-- The instruction the decoder reads from a word of the opcode table. -/
def decodeTableWord (nbits w : Nat) : Option Instr :=
  match decode (requestOfTableWord nbits w) with
  | .ok i => some i
  | .error _ => none

end Sys2Proof
end

