-- ==== Sys2Proof/Machine/State.lean ====
section
/-! DEFINITION. The state of one Device (10_state.md section 1), the events of its trace, and the reasons a step
stops. -/

namespace Sys2Proof.Machine

/-- LIFECYCLE (10_state.md R21). -/
inductive Lifecycle where
  | unpowered
  | reset
  | configuring
  | ready
  | active
  | standby
  deriving DecidableEq, Repr, Inhabited

/-- SEQ, the position inside the operation in flight (10_state.md R22). -/
inductive Seq where
  | idle
  | t1RstLow
  | t1Hold
  | t1RstHigh
  | t1Settle
  | t2SwReset
  | t2Settle
  | t3aVfdMode
  | t3bBrightness
  | t3cClear
  | t3cSettle
  | t3dOffset
  | t3eMode
  | t3fOsc
  | t4Filament
  | deFilament
  | deStandby
  deriving DecidableEq, Repr, Inhabited

/-- STATUS, the outcome of the most recent operation, with the transport's token beside IO_FAILURE
(10_state.md R24). -/
inductive Status where
  | ok
  | ioFailure (e : Token)
  | protocolError
  | refused
  deriving DecidableEq, Repr, Inhabited

/-- The events of TRACE (00_scope.md R14): a control line changed to a level, the transport shifted a byte out, at
least `ms` milliseconds passed. -/
inductive Event where
  | csN (l : Level)
  | rstN (l : Level)
  | filEn (l : Level)
  | tx (t : Byte)
  | wait (ms : Nat)
  deriving DecidableEq, Repr

/-- What the outside presents: a request of the host (10_state.md R38), or block reset (70_reset_and_hazards.md
R280). -/
inductive Input where
  | request (r : Request)
  | blockReset
  deriving DecidableEq, Repr

/-- The state of the Device, and last the environment's plan as plain data. -/
structure State where
  /-- LIFECYCLE, R21 -/
  lifecycle : Lifecycle
  /-- SEQ, R22 -/
  seq : Seq
  /-- BRIGHTNESS, R23 -/
  brightness : BitVec 16
  /-- STATUS, R24 -/
  status : Status
  /-- the result bytes that REVERSE and REVERSE_ALL present on return, R38; no other operation writes them (log 15) -/
  result : List Byte
  /-- an operation is in flight, R38; at rest between two steps only when the transport never returned (log 6) -/
  busy : Bool
  /-- the natural bytes of the transaction in flight, R20; empty when none is (log 16) -/
  operands : List Byte
  /-- DESYNC, R25 -/
  desync : Bool
  /-- the ghost that 70_reset_and_hazards.md R282 asks for beside DESYNC: block reset fell on a transaction, or on a
  controller already desynchronised, and no T1 has completed since (log 23) -/
  interrupted : Bool
  /-- GRAM, R27 -/
  gram : Memory
  /-- CS_N, R30 -/
  csN : Level
  /-- RST_N, R30 -/
  rstN : Level
  /-- FIL_EN, R30 -/
  filEn : Level
  /-- SCK, R31 -/
  sck : Level
  /-- MOSI, R31; held between writes, the model's choice (log 14) -/
  mosi : Level
  /-- CONFIG, R29 -/
  config : ConfigRecord
  /-- TRACE, oldest event first, R33 -/
  trace : List Event
  /-- the model's own: what the outside will present, in order (log 1) -/
  inputs : List Input
  /-- the model's own: what the transport will report, in order; free where the list is empty (log 5) -/
  transport : List TxOutcome
  /-- the model's own: the counter at which free values are drawn (log 5) -/
  draws : Nat
  deriving DecidableEq, Repr

/-- The state after block reset of a Device constructed with `config`, idle, with nothing more to come from the
outside (10_state.md R35). GRAM and MOSI are unspecified there; the model's values are log 12 and log 14. -/
def State.constructed (config : ConfigRecord) : State where
  lifecycle := .unpowered
  seq := .idle
  brightness := BitVec.ofNat 16 config.brightnessInit
  status := .ok
  result := []
  busy := false
  operands := []
  desync := false
  interrupted := false
  gram := []
  csN := .high
  rstN := .high
  filEn := .low
  sck := .high
  mosi := .low
  config := config
  trace := []
  inputs := []
  transport := []
  draws := 0

/-- The machine right after reset (10_state.md R35). -/
def State.reset : State := State.constructed Config.record

/-- Why a step stops with a fault. There is no such reason: the core has no trap, and "there are no other
synchronous exceptions" than the two failures, which end an operation in a next state (60_exceptions.md R244,
R250). -/
inductive Fault where
  deriving DecidableEq, Repr

/-- Why a step has no meaning. -/
inductive Refusal where
  /-- Raised by an arm of `exec` for an instruction without a meaning; no arm does so now. Safe. -/
  | notModelled (mnemonic : String)
  /-- Raised by INIT when LIFECYCLE is Standby (43_init_sequencer.md R187, 60_exceptions.md R242). `left` is the
  state the core is left in: STATUS REFUSED, nothing else changed. Safe: no claim about a later step can be
  proved (log 10). -/
  | initInStandby (left : State)
  /-- Raised by the decoding of a request with a selector 0b1001 to 0b1111 (30_encoding.md R100, 60_exceptions.md
  R242). `left` as above, with the request taken. Safe (log 10). -/
  | unknownSelector (sel : BitVec 4) (left : State)
  deriving DecidableEq, Repr

end Sys2Proof.Machine
end

