-- ==== Sys2Proof/Machine/Flags.lean ====
section
/-! DEFINITION. STATUS, DESYNC and the ghost beside it, the only flag-like state of the core (10_state.md R24,
R25), and the codes of the readable registers. The core has no condition codes. -/

namespace Sys2Proof.Machine

/-- The two failures an operation can end with (60_exceptions.md R240, R241). -/
inductive Failure where
  | io (e : Token)
  | protocol
  deriving DecidableEq, Repr

/-- The status a failure is recorded as, the token unchanged (60_exceptions.md R244, R251). -/
def statusOf : Failure → Status
  | .io e => .ioFailure e
  | .protocol => .protocolError

/-- The 2-bit code of a status (10_state.md R24). -/
def statusCode : Status → BitVec 2
  | .ok => 0
  | .ioFailure _ => 1
  | .protocolError => 2
  | .refused => 3

/-- The token presented beside the code (10_state.md R24). -/
def statusToken : Status → Option Token
  | .ioFailure e => some e
  | .ok => none
  | .protocolError => none
  | .refused => none

/-- The 3-bit code of a lifecycle state (10_state.md R21). -/
def lifecycleCode : Lifecycle → BitVec 3
  | .unpowered => 0
  | .reset => 1
  | .configuring => 2
  | .ready => 3
  | .active => 4
  | .standby => 5

/-- DESYNC after a failing write inside a transaction (10_state.md R25). -/
def markDesync (s : State) : State := { s with desync := true }

/-- The completion of T1 puts the controller back in step: DESYNC is cleared (10_state.md R25, 43_init_sequencer.md
R172), and with it the ghost of a transaction cut by block reset (70_reset_and_hazards.md R282). -/
def clearDesync (s : State) : State := { s with desync := false, interrupted := false }

end Sys2Proof.Machine
end

