-- ==== Sys2Proof/Machine/Ops.lean ====
section
/-! DEFINITION. The primitives of 00_scope.md R13 over memory, pins and the transport, and how an operation
returns or fails (60_exceptions.md R250). -/

namespace Sys2Proof

/-! ### Memory: one byte at a byte address (20_memory.md R50, R59) -/

/-- The byte at address `a`. -/
def Memory.read : Memory → Nat → Byte
  | [], _ => unlistedByte
  | (b, v) :: rest, a => if a = b then v else Memory.read rest a

/-- A cell in front of a memory, left out where it would hold what an unlisted address reads as. -/
def Memory.cons (a : Nat) (v : Byte) (m : Memory) : Memory := if v = unlistedByte then m else (a, v) :: m

/-- The memory with byte `v` at address `a`. -/
def Memory.write : Memory → Nat → Byte → Memory
  | [], a, v => Memory.cons a v []
  | (b, w) :: rest, a, v =>
    if a < b then Memory.cons a v ((b, w) :: rest)
    else if a = b then Memory.cons a v rest
    else (b, w) :: Memory.write rest a v

/-- GRAM after the fill loop `for a in 0 .. 4095: GRAM[a] <- 0x00` (44_gram_transformer.md R200, R202): every byte
is 0x00, whatever was there (log 13). -/
def Memory.zeroed : Memory := []

end Sys2Proof

namespace Sys2Proof.Machine

/-! ### Pins: `Drive` (10_state.md R30) -/

/-- The events a line makes when it is driven from level `was` to level `l`: one edge, or nothing. -/
def edge (mk : Level → Event) (was l : Level) : List Event := if was = l then [] else [mk l]

/-- `Drive(CS_N, l)`. -/
def driveCsN (l : Level) (s : State) : State := { s with csN := l, trace := s.trace ++ edge .csN s.csN l }

/-- `Drive(RST_N, l)`. -/
def driveRstN (l : Level) (s : State) : State := { s with rstN := l, trace := s.trace ++ edge .rstN s.rstN l }

/-- `Drive(FIL_EN, l)`. -/
def driveFilEn (l : Level) (s : State) : State := { s with filEn := l, trace := s.trace ++ edge .filEn s.filEn l }

/-! ### Time: `Wait` (60_exceptions.md R262) -/

/-- `Wait(d)`: at least `d` milliseconds pass. -/
def wait (d : Nat) (s : State) : State := { s with trace := s.trace ++ [.wait d] }

/-! ### Registers -/

/-- `SEQ <- p`. -/
def setSeq (p : Seq) (s : State) : State := { s with seq := p }

/-- `LIFECYCLE <- l`. -/
def setLifecycle (l : Lifecycle) (s : State) : State := { s with lifecycle := l }

/-- `BRIGHTNESS <- v`. -/
def setBrightness (v : BitVec 16) (s : State) : State := { s with brightness := v }

/-- GRAM rewritten in full. -/
def setGram (m : Memory) (s : State) : State := { s with gram := m }

/-! ### The transport: `Tx` (41_protocol_engine.md R125 to R128) -/

/-- What the transport reports for the next write: the environment's list, or a free draw (log 5). -/
def nextOutcome (s : State) : TxOutcome := s.transport.headD (Config.txDraw s.draws)

/-- The bytes of a write that are shifted out. A failure shifts out a prefix, all of it at most (R127; log 7); a
write that never returns adds no event (95_test_vectors.md T-F9; log 6). -/
def shiftedOut (o : TxOutcome) (t : List Byte) : List Byte :=
  match o with
  | .ok => t
  | .fail k _ => t.take k
  | .never => []

/-- SCK after a write: at rest high (10_state.md R31); not stated while a write never returns (log 14). -/
def sckAfter (o : TxOutcome) (draw : Nat) : Level :=
  match o with
  | .ok => .high
  | .fail _ _ => .high
  | .never => Config.sckLevel draw

/-- The state after `Tx(t)`, whatever the transport reports. MOSI takes a free value. DESIGN CHOICE: it is held until
the next write or block reset, where the spec lets an idle MOSI be anything (10_state.md R31, 93_implementation_defined.md
U15; log 14). -/
def tx (t : List Byte) (s : State) : State :=
  { s with
    trace := s.trace ++ (shiftedOut (nextOutcome s) t).map .tx
    sck := sckAfter (nextOutcome s) s.draws
    mosi := Config.mosiLevel s.draws
    transport := s.transport.tail
    draws := s.draws + 1 }

/-! ### How far an operation came -/

/-- An operation under way: it goes on, a failure has been raised (60_exceptions.md R250), or a write never
returned (41_protocol_engine.md R128). -/
inductive Progress where
  | goes (s : State)
  | raised (f : Failure) (s : State)
  | hung (s : State)
  deriving DecidableEq, Repr

/-- The rest of an operation, which runs only if the part before it goes on: a failure stops "every enclosing
operation" (60_exceptions.md R250). -/
def Progress.andThen (p : Progress) (f : State → Progress) : Progress :=
  match p with
  | .goes s => f s
  | .raised e s => .raised e s
  | .hung s => .hung s

/-- The transport writes of one transaction, in order; none after a write that did not return ok. A failure raises
`IoFailure` with the transport's token (60_exceptions.md R240). -/
def txAll : List (List Byte) → State → Progress
  | [], s => .goes s
  | t :: rest, s =>
    match nextOutcome s with
    | .ok => txAll rest (tx t s)
    | .fail _ e => .raised (.io e) (tx t s)
    | .never => .hung (tx t s)

/-! ### Return and failure -/

/-- The operation returns to the host with a status (10_state.md R38). -/
def respond (st : Status) (s : State) : State := { s with status := st, busy := false }

/-- The result bytes of REVERSE and REVERSE_ALL, presented on return (10_state.md R38). -/
def setResult (r : List Byte) (s : State) : State := { s with result := r }

/-- `return OK`. -/
def returnOk (s : State) : State := respond .ok s

/-- Taking a failure (60_exceptions.md R250, steps 5 to 9): SEQ goes to IDLE and the outermost operation returns the
failure's status. LIFECYCLE, BRIGHTNESS, the pins and the trace stay as the failing part left them; nothing is
saved, control goes nowhere. There is no handler and no return from one (R253): the next request starts from an
idle core. -/
def takeFailure (f : Failure) (s : State) : State := respond (statusOf f) (setSeq .idle s)

/-- A refused request: STATUS is REFUSED and nothing else changes (60_exceptions.md R242). -/
def refuse (s : State) : State := { s with status := .refused }

/-- The core while a write never returns: busy, with no status of this operation (41_protocol_engine.md R128). -/
def hang (s : State) : State := { s with busy := true }

/-- The state an operation ends in: returned, failed, or hanging for ever. -/
def settle : Progress → State
  | .goes s => returnOk s
  | .raised f s => takeFailure f s
  | .hung s => hang s

end Sys2Proof.Machine
end

