-- ==== Sys2Proof/Machine/Operands.lean ====
section
/-! DEFINITION. Every operand form of the core: the brightness value, the fixed payloads of INIT, the frame of a
command, the header of write-gram, the canvas and GRAM as byte streams. -/

namespace Sys2Proof.Machine

/-- A brightness value reduced to the register, `v mod 65536` (45_host_operations.md R223). -/
def maskBrightness (v : Nat) : BitVec 16 := BitVec.ofNat 16 v

/-- `VFD_MODE_CFG[0..6]` in index order (30_encoding.md R87). -/
def vfdModeCfg : List Byte := (List.range vfdModeBytes).map Config.vfdModeByte

/-- The natural bytes of a frame: opcode, then payload in the order given (20_memory.md R58). -/
def frameBytes (op : Byte) (payload : List Byte) : List Byte := op :: payload

/-- The header of a write-gram frame (30_encoding.md R88). -/
def writeGramHeader (xs ys : Byte) : List Byte := [Command.writeGram.op, xs, ys]

/-- `CanvasRead(g, x)`, for `g` below 6 and `x` below 256 (20_memory.md R53). -/
def canvasRead (c : Canvas) (g x : Nat) : Byte := Memory.read c (g * canvasCols + x)

/-- GRAM as the payload of write-gram: addresses 0 to 4095 in ascending order (20_memory.md R58). -/
def gramStream (m : Memory) : List Byte := (List.range gramBytes).map fun a => Memory.read m a

end Sys2Proof.Machine
end

