-- ==== Sys2Proof/Machine/Codec.lean ====
section
/-! DEFINITION. BitOrderCodec: the 256-entry ROM, REVERSE, REVERSE_ALL, and the three views of a byte on the wire
(40_bitorder_codec.md, 30_encoding.md R82 to R84). -/

namespace Sys2Proof.Machine

/-- `ROM[b]`: bit `i` of the entry is bit `7 - i` of the address (40_bitorder_codec.md R110, R111). -/
def rom (b : Byte) : Byte := BitVec.ofFnLE fun i : Fin 8 => b.getLsbD (7 - i.val)

/-- REVERSE of each byte, order kept (40_bitorder_codec.md R114). -/
def reverseAll (bytes : List Byte) : List Byte := bytes.map rom

/-- The bits a transport byte puts on MOSI in time order, `t[7]` first (30_encoding.md R83). -/
def mosiBits (t : Byte) : List Bool := (List.range 8).map fun j => t.getLsbD (7 - j)

/-- The byte a receiver assembles that takes the first bit as bit 0 (30_encoding.md R84). -/
def assembleLsbFirst (bits : List Bool) : Byte := BitVec.ofFnLE fun i : Fin 8 => bits.getD i.val false

/-- The wire byte of a transport byte (00_scope.md R14, 30_encoding.md R84). -/
def wireByte (t : Byte) : Byte := assembleLsbFirst (mosiBits t)

/-- REVERSE b (40_bitorder_codec.md R110). -/
def execReverse (b : Byte) (s : State) : Host.Outcome State Fault Refusal :=
  .next (returnOk (setResult [rom b] s))

/-- REVERSE_ALL bytes (40_bitorder_codec.md R114). -/
def execReverseAll (bytes : List Byte) (s : State) : Host.Outcome State Fault Refusal :=
  .next (returnOk (setResult (reverseAll bytes) s))

end Sys2Proof.Machine
end

