-- ==== Sys2Proof/Machine/Protocol.lean ====
section
/-! DEFINITION. ProtocolEngine: the chip-select discipline, SEND_COMMAND and WRITE_GRAM (41_protocol_engine.md). -/

namespace Sys2Proof.Machine

/-- The start of a transaction: its bytes are the operands in flight and CS_N is asserted (41_protocol_engine.md
R133). -/
def beginTransaction (natural : List Byte) (s : State) : State := driveCsN .low { s with operands := natural }

/-- The end of a transaction, on every path that returns (R133). -/
def endTransaction (s : State) : State := { driveCsN .high s with operands := [] }

/-- How a transaction ends: CS_N is deasserted whether the body ended in ok or in a failure; a failure also sets
DESYNC; a write that never returns is outside the discipline (R128, R133). -/
def closeTransaction : Progress → Progress
  | .goes s => .goes (endTransaction s)
  | .raised f s => .raised f (markDesync (endTransaction s))
  | .hung s => .hung s

/-- One transaction: scoped acquisition of chip-select around the given parts, each reversed by the codec once and
handed to the transport as one write (R116, R130, R133, R135). -/
def transaction (parts : List (List Byte)) (s : State) : Progress :=
  closeTransaction (txAll (parts.map reverseAll) (beginTransaction parts.flatten s))

/-- SEND_COMMAND op, payload, up to its return (41_protocol_engine.md R130). -/
def sendCommand (op : Byte) (payload : List Byte) (s : State) : Progress :=
  transaction [frameBytes op payload] s

/-- WRITE_GRAM buf, xs, ys, up to its return: the shape check before any pin moves, then header and payload as two
writes under one assertion (41_protocol_engine.md R135, R136). -/
def writeGram (buf : List Byte) (xs ys : Byte) (s : State) : Progress :=
  if buf.length ≠ gramBytes then .raised .protocol s else transaction [writeGramHeader xs ys, buf] s

/-- SEND_COMMAND op, payload (R130). -/
def execSendCommand (op : Byte) (payload : List Byte) (s : State) : Host.Outcome State Fault Refusal :=
  .next (settle (sendCommand op payload s))

/-- WRITE_GRAM buf, xs, ys (R135). -/
def execWriteGram (buf : List Byte) (xs ys : Byte) (s : State) : Host.Outcome State Fault Refusal :=
  .next (settle (writeGram buf xs ys s))

end Sys2Proof.Machine
end

