-- ==== Sys2Proof/Machine/Transformer.lean ====
section
/-! DEFINITION. GRAMTransformer: TRANSFORM with its stride, duplication and trigger patch
(44_gram_transformer.md). -/

namespace Sys2Proof.Machine

/-- The GRAM address of copy `d` of canvas byte (`g`, `x`): `(2x + d)*8 + g` (R200). -/
def gramAddr (d x g : Nat) : Nat := (dup * x + d) * gramColBytes + g

/-- One canvas byte written unchanged into both its GRAM columns (R200). -/
def copyByte (c : Canvas) (x : Nat) (m : Memory) (g : Nat) : Memory :=
  (m.write (gramAddr 0 x g) (canvasRead c g x)).write (gramAddr 1 x g) (canvasRead c g x)

/-- One canvas column: row-groups 0 to 5 (R200). -/
def copyColumn (c : Canvas) (m : Memory) (x : Nat) : Memory := (List.range canvasGroups).foldl (copyByte c x) m

/-- The trigger patch, "unconditionally set `gram[0] = 0xFF`" (R203). -/
def patchTrigger (m : Memory) : Memory := m.write triggerAddr triggerValue

/-- The buffer TRANSFORM makes of a canvas: zero fill, copies, patch last (R200). -/
def transformed (c : Canvas) : Memory :=
  patchTrigger ((List.range canvasCols).foldl (copyColumn c) Memory.zeroed)

/-- The all-clear buffer of INIT step T3C: zero fill, then the patch (43_init_sequencer.md R176). -/
def clearFrame : Memory := patchTrigger Memory.zeroed

/-- TRANSFORM canvas (R200). -/
def execTransform (c : Canvas) (s : State) : Host.Outcome State Fault Refusal :=
  .next (returnOk (setGram (transformed c) s))

end Sys2Proof.Machine
end

