-- ==== Sys2Proof/Machine/HostOps.lean ====
section
/-! DEFINITION. The host operations SHOW and SET_BRIGHTNESS (45_host_operations.md). -/

namespace Sys2Proof.Machine

/-- WRITE_GRAM GRAM, 0, 0: the buffer is GRAM in ascending address order (R220, 43_init_sequencer.md R176). -/
def writeOwnGram (s : State) : Progress := writeGram (gramStream s.gram) startCoord startCoord s

/-- SHOW canvas: TRANSFORM, then WRITE_GRAM GRAM, 0, 0 (R220). -/
def execShow (c : Canvas) (s : State) : Host.Outcome State Fault Refusal :=
  .next (settle (writeOwnGram (setGram (transformed c) s)))

/-- `SEND_COMMAND(OP_BRIGHTNESS, [BRIGHTNESS[7:0], BRIGHTNESS[15:8]])`: the register as it is now (R222,
43_init_sequencer.md R175). -/
def sendBrightness (s : State) : Progress := sendCommand Command.brightness.op (brightnessPayload s.brightness) s

/-- SET_BRIGHTNESS v: the masked value is stored first and survives a failed send (R222, R223). -/
def execSetBrightness (v : Nat) (s : State) : Host.Outcome State Fault Refusal :=
  .next (settle (sendBrightness (setBrightness (maskBrightness v) s)))

end Sys2Proof.Machine
end

