-- ==== Sys2Proof/Machine/Sequencer.lean ====
section
/-! DEFINITION. InitSequencer: INIT and DEINIT (43_init_sequencer.md). -/

namespace Sys2Proof.Machine

/-- T1, the hardware reset of the controller; it cannot fail, and its completion clears DESYNC (R172). -/
def initT1 (s : State) : State :=
  let low := wait rstLowMs (setSeq .t1Hold (driveRstN .low (setSeq .t1RstLow s)))
  let settled := wait rstSettleMs (setSeq .t1Settle (driveRstN .high (setSeq .t1RstHigh low)))
  clearDesync (setLifecycle .reset settled)

/-- T2, the software reset; if the command fails the wait is skipped (R173). -/
def initT2 (s : State) : Progress :=
  (sendCommand Command.reset.op [] (setSeq .t2SwReset s)).andThen fun s =>
    .goes (setLifecycle .configuring (wait swResetMs (setSeq .t2Settle s)))

/-- T3A, the operating mode (R174). -/
def initT3a (s : State) : Progress := sendCommand Command.vfdMode.op vfdModeCfg (setSeq .t3aVfdMode s)

/-- T3B, the configured brightness (R175). -/
def initT3b (s : State) : Progress := sendBrightness (setSeq .t3bBrightness s)

/-- T3C, the all-clear frame and its settle time (R176). -/
def initT3c (s : State) : Progress :=
  (writeOwnGram (setGram clearFrame (setSeq .t3cClear s))).andThen fun s =>
    .goes (wait clearMs (setSeq .t3cSettle s))

/-- T3D, the display offset (R177). -/
def initT3d (s : State) : Progress :=
  sendCommand Command.displayOffset.op [offsetX, offsetY] (setSeq .t3dOffset s)

/-- T3E, the display mode (R178). -/
def initT3e (s : State) : Progress := sendCommand Command.displayMode.op [displayModeInit] (setSeq .t3eMode s)

/-- T3F, the oscillator; its return ends configuration (R182). -/
def initT3f (s : State) : Progress :=
  (sendCommand Command.osc.op [Config.oscCfg] (setSeq .t3fOsc s)).andThen fun s => .goes (setLifecycle .ready s)

/-- T4, the filament on; it cannot fail (R179). -/
def initT4 (s : State) : State :=
  setSeq .idle (setLifecycle .active (driveFilEn .high (setSeq .t4Filament s)))

/-- The whole sequence, in the one order there is (R170, R174). -/
def initSequence (s : State) : Progress :=
  ((((((initT2 (initT1 s)).andThen initT3a).andThen initT3b).andThen initT3c).andThen initT3d).andThen
    initT3e).andThen fun s => (initT3f s).andThen fun s => .goes (initT4 s)

/-- INIT (R170): refused in Standby (R187), the full sequence in every other state (R188). -/
def execInit (s : State) : Host.Outcome State Fault Refusal :=
  if s.lifecycle = .standby then .refused (.initInStandby (refuse s)) else .next (settle (initSequence s))

/-- DEINIT (R180): the filament off in every state; from Active also enter-standby, and Standby once that has
returned ok (R171, R181). -/
def deinitSequence (s : State) : Progress :=
  let off := driveFilEn .low (setSeq .deFilament s)
  if s.lifecycle = .active then
    (sendCommand Command.enterStandby.op [] (setSeq .deStandby off)).andThen fun s =>
      .goes (setSeq .idle (setLifecycle .standby s))
  else .goes (setSeq .idle off)

/-- DEINIT (R180). -/
def execDeinit (s : State) : Host.Outcome State Fault Refusal := .next (settle (deinitSequence s))

end Sys2Proof.Machine
end

