-- ==== Sys2Proof/Machine/WireCommands.lean ====
section
/-! DEFINITION. The ten wire commands: SEND_COMMAND or WRITE_GRAM with the opcode bound (42_wire_commands.md). -/

namespace Sys2Proof.Machine

/-- CMD_RESET (R150). -/
def execCmdReset (s : State) : Host.Outcome State Fault Refusal :=
  .next (settle (sendCommand Command.reset.op [] s))

/-- CMD_FRAME_SYNC (R151). -/
def execCmdFrameSync (s : State) : Host.Outcome State Fault Refusal :=
  .next (settle (sendCommand Command.frameSync.op [] s))

/-- CMD_BRIGHTNESS v: low byte first; the register BRIGHTNESS is not written (R152, R160). -/
def execCmdBrightness (v : BitVec 16) (s : State) : Host.Outcome State Fault Refusal :=
  .next (settle (sendCommand Command.brightness.op (brightnessPayload v) s))

/-- CMD_DISPLAY_MODE m (R153). -/
def execCmdDisplayMode (m : Byte) (s : State) : Host.Outcome State Fault Refusal :=
  .next (settle (sendCommand Command.displayMode.op [m] s))

/-- CMD_DISPLAY_OFFSET x, y: x first (R154). -/
def execCmdDisplayOffset (x y : Byte) (s : State) : Host.Outcome State Fault Refusal :=
  .next (settle (sendCommand Command.displayOffset.op [x, y] s))

/-- CMD_VFD_MODE c0..c6 (R155). -/
def execCmdVfdMode (c0 c1 c2 c3 c4 c5 c6 : Byte) (s : State) : Host.Outcome State Fault Refusal :=
  .next (settle (sendCommand Command.vfdMode.op [c0, c1, c2, c3, c4, c5, c6] s))

/-- CMD_OSC setting (R156). -/
def execCmdOsc (setting : Byte) (s : State) : Host.Outcome State Fault Refusal :=
  .next (settle (sendCommand Command.osc.op [setting] s))

/-- CMD_ENTER_STANDBY: the frame alone; LIFECYCLE is not written (R157, R160). -/
def execCmdEnterStandby (s : State) : Host.Outcome State Fault Refusal :=
  .next (settle (sendCommand Command.enterStandby.op [] s))

/-- CMD_EXIT_STANDBY: the frame alone; "the core stays in Standby" (R158). -/
def execCmdExitStandby (s : State) : Host.Outcome State Fault Refusal :=
  .next (settle (sendCommand Command.exitStandby.op [] s))

/-- CMD_WRITE_GRAM buf, xs, ys, with the length check of WRITE_GRAM (R159). -/
def execCmdWriteGram (buf : List Byte) (xs ys : Byte) (s : State) : Host.Outcome State Fault Refusal :=
  .next (settle (writeGram buf xs ys s))

end Sys2Proof.Machine
end

