-- ==== Sys2Proof/Machine/Dispatch.lean ====
section
/-! DEFINITION. One arm per instruction. -/

namespace Sys2Proof.Machine

def exec (i : Instr) (s : State) : Host.Outcome State Fault Refusal :=
  match i with
  | .cmdReset => Sys2Proof.Machine.execCmdReset s
  | .cmdFrameSync => Sys2Proof.Machine.execCmdFrameSync s
  | .cmdBrightness v => Sys2Proof.Machine.execCmdBrightness v s
  | .cmdDisplayMode m => Sys2Proof.Machine.execCmdDisplayMode m s
  | .cmdDisplayOffset x y => Sys2Proof.Machine.execCmdDisplayOffset x y s
  | .cmdVfdMode c0 c1 c2 c3 c4 c5 c6 => Sys2Proof.Machine.execCmdVfdMode c0 c1 c2 c3 c4 c5 c6 s
  | .cmdOsc setting => Sys2Proof.Machine.execCmdOsc setting s
  | .cmdEnterStandby => Sys2Proof.Machine.execCmdEnterStandby s
  | .cmdExitStandby => Sys2Proof.Machine.execCmdExitStandby s
  | .cmdWriteGram buf xs ys => Sys2Proof.Machine.execCmdWriteGram buf xs ys s
  | .reverse b => Sys2Proof.Machine.execReverse b s
  | .reverseAll bytes => Sys2Proof.Machine.execReverseAll bytes s
  | .sendCommand op payload => Sys2Proof.Machine.execSendCommand op payload s
  | .writeGram buf xs ys => Sys2Proof.Machine.execWriteGram buf xs ys s
  | .transform canvas => Sys2Proof.Machine.execTransform canvas s
  | .showFrame canvas => Sys2Proof.Machine.execShow canvas s
  | .setBrightness v => Sys2Proof.Machine.execSetBrightness v s
  | .init => Sys2Proof.Machine.execInit s
  | .deinit => Sys2Proof.Machine.execDeinit s

end Sys2Proof.Machine
end

