-- ==== Sys2Proof/Machine/Fetch.lean ====
section
/-! DEFINITION. How the core takes what the outside presents: a request, block reset, or nothing (10_state.md R38,
70_reset_and_hazards.md R280). -/

namespace Sys2Proof.Machine

/-- What the core does next. -/
inductive Fetched where
  /-- no operation, with the state after it: idle without a request, or busy for ever -/
  | stays (s : State)
  /-- block reset, with the state after it -/
  | restarts (s : State)
  /-- an instruction runs, from the state with its request taken -/
  | runs (i : Instr) (s : State)
  /-- the request has no instruction -/
  | refuses (r : Refusal)
  deriving DecidableEq, Repr

/-- Whether the controller is to be treated as desynchronised after a block reset from this state: the reset falls on
a transaction (70_reset_and_hazards.md R282), or the controller was desynchronised before, which block reset, that
"sends nothing to the controller", does not mend (R280, R281; log 23). -/
def leavesInterrupted (s : State) : Bool := s.interrupted || s.desync || decide (s.csN = .low)

/-- Block reset: every piece of the core's state to its value of 10_state.md R35, DESYNC too, with the record the
Device was constructed with; the environment goes on, and so does what is known of the controller
(70_reset_and_hazards.md R280, R282; log 11, log 23). -/
def blockReset (s : State) : State :=
  { State.constructed s.config with
    interrupted := leavesInterrupted s, inputs := s.inputs, transport := s.transport, draws := s.draws }

/-- The state with `rest` still to be presented. -/
def withInputs (rest : List Input) (s : State) : State := { s with inputs := rest }

/-- The refusal of a request that decodes to nothing (60_exceptions.md R242). -/
def refusalOf (r : Reject) (s : State) : Refusal :=
  match r with
  | .unknownSelector sel => .unknownSelector sel (refuse s)

/-- A request is taken only by an idle core: "Requests offered while `busy` are not accepted" (10_state.md R38), and
"The core has no queue" (70_reset_and_hazards.md R299). DESIGN CHOICE: a request that a busy core does not accept is
lost, nothing else changes, and what the outside presents next comes next; the spec says only that it is not accepted
(log 24). Block reset is taken by an idle core and by a hanging one (R282). -/
def fetch (s : State) : Fetched :=
  match s.inputs with
  | [] => .stays s
  | .blockReset :: rest => .restarts (blockReset (withInputs rest s))
  | .request r :: rest =>
    if s.busy then .stays (withInputs rest s)
    else
      match decode r with
      | .ok i => .runs i (withInputs rest s)
      | .error e => .refuses (refusalOf e (withInputs rest s))

/-- The state in which an idle core is presented a request next (log 2). -/
def present (r : Request) (s : State) : State := { s with busy := false, inputs := .request r :: s.inputs }

end Sys2Proof.Machine
end

