-- ==== Sys2Proof/Machine/Step.lean ====
section
/-! DEFINITION. One step of the machine: one operation from acceptance to return, or one block reset, or nothing
(log 4). -/

namespace Sys2Proof.Machine

/-- One step. -/
def step (s : State) : Host.Outcome State Fault Refusal :=
  match fetch s with
  | .stays s' => .next s'
  | .restarts s' => .next s'
  | .runs i s' => exec i s'
  | .refuses r => .refused r

/-- The state with the request of a table word presented next, so that the next step runs it (log 2). -/
def State.withFetchWord (s : State) (nbits w : Nat) : State := present (requestOfTableWord nbits w) s

end Sys2Proof.Machine
end

