-- ==== Sys2Proof/Safety.lean ====
section
/-! DEFINITION. The terms in which claims speak of a safe run: the relations between operations, the legality of the
trace, and what the receiver of the trace assembles. -/

namespace Sys2Proof.Machine

/-- What the transport reports for the `n`-th write from here, counting from 0. -/
def outcomeAt (s : State) (n : Nat) : TxOutcome := (s.transport.drop n).headD (Config.txDraw (s.draws + n))

/-- GRAM is a memory of 4096 bytes in canonical form. -/
def GramSound (s : State) : Prop := Memory.wf s.gram = true ∧ Memory.below gramBytes s.gram = true

/-- The relations of 10_state.md R34, which hold whenever no operation is in flight, with what is left of them while
a transport write never returns (41_protocol_engine.md R128). -/
structure AtRest (s : State) : Prop where
  /-- (a), and the sequencer, the operands and the clock at rest (R20, R22, R31) -/
  idle : s.busy = false → s.csN = .high ∧ s.seq = .idle ∧ s.operands = [] ∧ s.sck = .high
  /-- a hanging operation holds chip-select (41_protocol_engine.md R128) -/
  hanging : s.busy = true → s.csN = .low
  /-- (b) -/
  rstN : s.rstN = .high
  /-- (c) -/
  unpowered : s.lifecycle = .unpowered → s.filEn = .low
  /-- (d) -/
  standby : s.lifecycle = .standby → s.filEn = .low
  /-- (e) -/
  notReady : s.lifecycle ≠ .ready
  gram : GramSound s

/-- The trace means to the controller what it says: "the controller's view of the trace is meaningful only while
`DESYNC = 0`" (10_state.md R25), and no block reset has cut a transaction since the last T1
(70_reset_and_hazards.md R282; log 23). -/
def ControllerInStep (s : State) : Prop := s.desync = false ∧ s.interrupted = false

/-! ### Legal traces -/

/-- The control lines as the trace shows them, and the milliseconds still owed after an edge of RST_N
(70_reset_and_hazards.md R290). -/
structure Lines where
  csN : Level
  rstN : Level
  filEn : Level
  owed : Nat
  deriving DecidableEq, Repr

/-- The lines at block reset (10_state.md R35). -/
def Lines.atReset : Lines := { csN := .high, rstN := .high, filEn := .low, owed := 0 }

/-- One event, if it is legal there. An edge changes the level (10_state.md R30). A byte is shifted out only while
CS_N is low (41_protocol_engine.md R129), and nothing but bytes happens while it is low (R131, R133). RST_N stays low
at least 10 ms and at least 50 ms pass after it rises before a frame begins (43_init_sequencer.md R172). -/
def Lines.advance (l : Lines) : Event → Option Lines
  | .csN v => if l.csN = v ∨ l.rstN = .low ∨ l.owed ≠ 0 then none else some { l with csN := v }
  | .rstN v =>
    if l.rstN = v ∨ l.csN = .low ∨ l.owed ≠ 0 then none
    else some { l with rstN := v, owed := match v with | .low => rstLowMs | .high => rstSettleMs }
  | .filEn v => if l.filEn = v ∨ l.csN = .low then none else some { l with filEn := v }
  | .tx _ => if l.csN = .low then some l else none
  | .wait d => if l.csN = .low then none else some { l with owed := l.owed - d }

/-- A whole trace, if every event of it is legal. -/
def Lines.replay : Lines → List Event → Option Lines
  | l, [] => some l
  | l, e :: rest => (l.advance e).bind fun l' => l'.replay rest

/-- The trace since block reset is legal and ends at the levels the pins hold. -/
def TraceLegal (s : State) : Prop :=
  Lines.atReset.replay s.trace = some { csN := s.csN, rstN := s.rstN, filEn := s.filEn, owed := 0 }

/-! ### The receiver -/

/-- The frames a receiver assembles from a trace: the wire bytes of each chip-select assertion that ends
(30_encoding.md R80, R84). The first argument holds the bytes of the assertion under way, if one is. -/
def framesFrom : Option (List Byte) → List Event → List (List Byte)
  | _, [] => []
  | got, e :: rest =>
    match e, got with
    | .csN .low, _ => framesFrom (some []) rest
    | .csN .high, some bytes => bytes :: framesFrom none rest
    | .csN .high, none => framesFrom none rest
    | .tx t, some bytes => framesFrom (some (bytes ++ [wireByte t])) rest
    | .tx _, none => framesFrom none rest
    | .rstN _, _ => framesFrom got rest
    | .filEn _, _ => framesFrom got rest
    | .wait _, _ => framesFrom got rest

/-- The frames of a trace that begins with CS_N high. -/
def framesOf (trace : List Event) : List (List Byte) := framesFrom none trace

/-- The least time a trace takes in its waits, in milliseconds (60_exceptions.md R262). -/
def waitedMs (trace : List Event) : Nat :=
  (trace.map fun e => match e with
    | .wait d => d
    | .csN _ => 0
    | .rstN _ => 0
    | .filEn _ => 0
    | .tx _ => 0).sum

end Sys2Proof.Machine
end

