-- ==== Sys2Proof/Certificates/Slice0/Obligations.lean ====
section
/-! DEFINITION. The statements for the provers. First the spec's own tables and traces, written out from its rules
and not from the meanings; then one definition per statement. In all of them `outcomeAt s n` is what the transport
reports for the `n`-th write from `s` (log 5), and the values of the model's own fields `transport` and `draws`, of
MOSI and of a hanging SCK are the model's convention (log 5, log 14), and so is that MOSI holds its level where no
write is made (log 14), and that an operation which does not rewrite GRAM leaves it, and which is not REVERSE or
REVERSE_ALL leaves the result bytes, as they were (log 12, log 15). -/

namespace Sys2Proof.Claims

open Sys2Proof.Machine

/-- The events of one whole frame of natural bytes: chip-select low, every byte reversed, chip-select high
(41_protocol_engine.md R131, R137). -/
def frameEvents (natural : List Byte) : List Event :=
  [.csN .low] ++ natural.map (fun n => .tx (rom n)) ++ [.csN .high]

/-- The environment and the bus after `n` writes that returned. -/
def afterWrites (n : Nat) (s : State) : State :=
  { s with
    transport := s.transport.drop n, draws := s.draws + n, sck := .high, mosi := Config.mosiLevel (s.draws + n - 1) }

/-- The state after an operation that sent one whole frame in `n` writes and returned OK. -/
def sent (n : Nat) (natural : List Byte) (s : State) : State :=
  { afterWrites n s with
    trace := s.trace ++ frameEvents natural, csN := .high, operands := [], status := .ok, busy := false }

/-- The state after an operation whose frame was cut behind its first `k` bytes, in its `n`-th write
(41_protocol_engine.md R132, R138; 60_exceptions.md R250). -/
def cut (n k : Nat) (e : Token) (natural : List Byte) (s : State) : State :=
  { afterWrites n s with
    trace := s.trace ++ frameEvents (natural.take k), csN := .high, operands := [], desync := true, seq := .idle,
    status := .ioFailure e, busy := false }

/-- The state while the `n`-th write of a frame never returns, `natural` being the frame and `out` the bytes of the
writes before (41_protocol_engine.md R128). -/
def stuck (n : Nat) (natural out : List Byte) (s : State) : State :=
  { s with
    transport := s.transport.drop n, draws := s.draws + n, sck := Config.sckLevel (s.draws + n - 1)
    mosi := Config.mosiLevel (s.draws + n - 1)
    trace := s.trace ++ .csN .low :: out.map (fun n => .tx (rom n))
    csN := .low, operands := natural, busy := true }

/-- The natural frame of SEND_COMMAND and of the nine commands that are one (30_encoding.md R81, R89). -/
def frameOf : Instr → Option (List Byte)
  | .sendCommand op payload => some (op :: payload)
  | .cmdReset => some [Command.reset.op]
  | .cmdFrameSync => some [Command.frameSync.op]
  | .cmdBrightness v =>
    some [Command.brightness.op, v.setWidth 8, (v >>> 8).setWidth 8]
  | .cmdDisplayMode m => some [Command.displayMode.op, m]
  | .cmdDisplayOffset x y => some [Command.displayOffset.op, x, y]
  | .cmdVfdMode c0 c1 c2 c3 c4 c5 c6 => some [Command.vfdMode.op, c0, c1, c2, c3, c4, c5, c6]
  | .cmdOsc setting => some [Command.osc.op, setting]
  | .cmdEnterStandby => some [Command.enterStandby.op]
  | .cmdExitStandby => some [Command.exitStandby.op]
  | .cmdWriteGram _ _ _ => none
  | .reverse _ => none
  | .reverseAll _ => none
  | .writeGram _ _ _ => none
  | .transform _ => none
  | .showFrame _ => none
  | .setBrightness _ => none
  | .init => none
  | .deinit => none

/-- The operands of the two instructions that write a given buffer (41_protocol_engine.md R135, 42_wire_commands.md
R159). -/
def bufferOf : Instr → Option (List Byte × Byte × Byte)
  | .writeGram buf xs ys => some (buf, xs, ys)
  | .cmdWriteGram buf xs ys => some (buf, xs, ys)
  | _ => none

/-- The instructions that rewrite GRAM (10_state.md R37). -/
def rewritesGram : Instr → Bool
  | .transform _ => true
  | .showFrame _ => true
  | .init => true
  | _ => false

/-- The instructions that drive chip-select and the bus: all but REVERSE, REVERSE_ALL and TRANSFORM (10_state.md
R37). -/
def drivesBus : Instr → Bool
  | .reverse _ => false
  | .reverseAll _ => false
  | .transform _ => false
  | _ => true

/-- The operation returned to the host with IO_FAILURE. -/
def ReturnedIoFailure (t : State) : Prop := t.busy = false ∧ ∃ e, t.status = .ioFailure e

/-- Whether a payload of `n` bytes has the shape of a command's frame (30_encoding.md R81; for write-gram both start
bytes and a buffer of any length, log 20). -/
def takesPayload : Command → Nat → Bool
  | .reset, n => n == 0
  | .frameSync, n => n == 0
  | .brightness, n => n == 2
  | .displayMode, n => n == 1
  | .displayOffset, n => n == 2
  | .vfdMode, n => n == 7
  | .osc, n => n == 1
  | .enterStandby, n => n == 0
  | .exitStandby, n => n == 0
  | .writeGram, n => 2 ≤ n

/-- The gather form of TRANSFORM (44_gram_transformer.md R204): `k = a[2:0]`, `x = a[11:4]`. -/
def gather (c : Canvas) (a : Nat) : Byte :=
  if a = 0 then 0xFF else if a % 8 ≤ 5 then canvasRead c (a % 8) (a / 16 % 256) else 0x00

/-- The natural frame of SHOW (45_host_operations.md R221). -/
def showBytes (c : Canvas) : List Byte := [Command.writeGram.op, 0x00, 0x00] ++ (List.range 4096).map (gather c)

/-- The seven frames of INIT in their order (43_init_sequencer.md R170, R185). -/
def initFrames (brightness : BitVec 16) : List (List Byte) :=
  [[Command.reset.op],
   [Command.vfdMode.op, Config.vfdModeByte 0, Config.vfdModeByte 1, Config.vfdModeByte 2, Config.vfdModeByte 3,
     Config.vfdModeByte 4, Config.vfdModeByte 5, Config.vfdModeByte 6],
   [Command.brightness.op, brightness.setWidth 8, (brightness >>> 8).setWidth 8],
   [Command.writeGram.op, 0x00, 0x00, 0xFF] ++ List.replicate 4095 0x00,
   [Command.displayOffset.op, 0x00, 0x38],
   [Command.displayMode.op, 0x00],
   [Command.osc.op, Config.oscCfg]]

/-- The trace of a successful INIT (43_init_sequencer.md R185): the last event is absent when FIL_EN is 1 already. -/
def initEvents (brightness : BitVec 16) (filEn : Level) : List Event :=
  [.rstN .low, .wait 10, .rstN .high, .wait 50] ++ frameEvents [Command.reset.op] ++ [.wait 50]
    ++ frameEvents [Command.vfdMode.op, Config.vfdModeByte 0, Config.vfdModeByte 1, Config.vfdModeByte 2,
        Config.vfdModeByte 3, Config.vfdModeByte 4, Config.vfdModeByte 5, Config.vfdModeByte 6]
    ++ frameEvents [Command.brightness.op, brightness.setWidth 8, (brightness >>> 8).setWidth 8]
    ++ frameEvents ([Command.writeGram.op, 0x00, 0x00, 0xFF] ++ List.replicate 4095 0x00) ++ [.wait 20]
    ++ frameEvents [Command.displayOffset.op, 0x00, 0x38] ++ frameEvents [Command.displayMode.op, 0x00]
    ++ frameEvents [Command.osc.op, Config.oscCfg]
    ++ (match filEn with
        | .low => [.filEn .high]
        | .high => [])

/-- Where INIT stands during each of its eight transport writes (43_init_sequencer.md R170; write-gram is two). -/
def initPositions : List Seq :=
  [.t2SwReset, .t3aVfdMode, .t3bBrightness, .t3cClear, .t3cClear, .t3dOffset, .t3eMode, .t3fOsc]

/-- LIFECYCLE during the `j`-th write of INIT: Reset before T2 is complete, Configuring after (43_init_sequencer.md
R171, R183). -/
def initLifecycle (j : Nat) : Lifecycle := if j = 0 then .reset else .configuring

/-- The state in which DEINIT has turned the filament off; an edge only if it was on (43_init_sequencer.md R180). -/
def filamentOff (s : State) : State :=
  { s with
    filEn := .low
    trace := s.trace ++ (match s.filEn with
      | .low => []
      | .high => [.filEn .low]) }

end Sys2Proof.Claims

open Sys2Proof Sys2Proof.Machine Sys2Proof.Claims

/-! ### BitOrderCodec -/

/-- 40_bitorder_codec.md R110: the result of REVERSE, bit by bit, and that nothing else changes but the result bytes
and the returned status. -/
def Obligations.ReverseMirrorsTheBits : Prop :=
  ∀ (b : Byte) (s : State), ∃ r : Byte,
    exec (.reverse b) s = .next { s with status := .ok, result := [r], busy := false } ∧
      ∀ i, i < 8 → r.getLsbD i = b.getLsbD (7 - i)

/-- 40_bitorder_codec.md R112: REVERSE of a result of REVERSE is the byte again, and REVERSE is one-to-one and
onto. -/
def Obligations.ReverseIsAnInvolution : Prop :=
  (∀ (b : Byte) (s : State), ∃ (r : Byte) (t u : State), exec (.reverse b) s = .next t ∧ t.result = [r] ∧
      exec (.reverse r) t = .next u ∧ u.result = [b]) ∧
    Function.Bijective rom

/-- 40_bitorder_codec.md section 1, the laws the spec derives of REVERSE: it keeps the number of set bits, commutes
with and, or, exclusive or and complement, turns a left shift into a right one, fixes exactly the sixteen palindromic
bytes, and swaps and reverses the nibbles. -/
def Obligations.ReverseLaws : Prop :=
  (∀ b : Byte, (List.range 8).countP (rom b).getLsbD = (List.range 8).countP b.getLsbD) ∧
    (∀ a b : Byte, rom (a &&& b) = rom a &&& rom b ∧ rom (a ||| b) = rom a ||| rom b ∧
      rom (a ^^^ b) = rom a ^^^ rom b ∧ rom (~~~a) = ~~~rom a) ∧
    (∀ (b : Byte) (k : Nat), k ≤ 7 → rom (b <<< k) = rom b >>> k) ∧
    (∀ b : Byte, rom b = b ↔ b ∈ ([0x00, 0x18, 0x24, 0x3C, 0x42, 0x5A, 0x66, 0x7E, 0x81, 0x99, 0xA5, 0xBD, 0xC3, 0xDB,
      0xE7, 0xFF] : List Byte)) ∧
    (∀ (b : Byte) (i : Nat), i < 4 → (rom b).getLsbD (4 + i) = b.getLsbD (3 - i) ∧
      (rom b).getLsbD i = b.getLsbD (7 - i))

/-- 40_bitorder_codec.md R114: REVERSE_ALL reverses every byte and keeps length and order; nothing else changes but
the result bytes and the returned status. -/
def Obligations.ReverseAllKeepsLengthAndOrder : Prop :=
  ∀ (bytes : List Byte) (s : State), ∃ r : List Byte,
    exec (.reverseAll bytes) s = .next { s with status := .ok, result := r, busy := false } ∧
      r.length = bytes.length ∧
      ∀ (i : Nat) (b : Byte), bytes[i]? = some b →
        ∃ y : Byte, r[i]? = some y ∧ ∀ j, j < 8 → y.getLsbD j = b.getLsbD (7 - j)

/-- 30_encoding.md section 1 and 20_memory.md section 3: the transport byte of a natural byte goes out least
significant bit of the natural byte first, and the receiver assembles the natural byte. -/
def Obligations.NaturalByteReachesTheReceiver : Prop :=
  ∀ n : Byte, mosiBits (rom n) = (List.range 8).map n.getLsbD ∧ wireByte (rom n) = n

/-! ### ProtocolEngine and the wire commands -/

/-- 41_protocol_engine.md section 3 and 42_wire_commands.md: SEND_COMMAND and the nine commands that are one send
their frame in one chip-select assertion, every byte reversed once, and return OK; the whole next state. No check of
opcode or payload is the spec's decision D27. -/
def Obligations.FramesAreSent : Prop :=
  ∀ (i : Instr) (f : List Byte) (s : State), frameOf i = some f → s.csN = .high → outcomeAt s 0 = .ok →
    exec i s = .next (sent 1 f s)

/-- 41_protocol_engine.md sections 1 to 3 (the spec's decision D16 on the prefix): a write that fails after `k` bytes
cuts the frame there; chip-select rises, DESYNC is set, the token is returned, nothing else is done. -/
def Obligations.FailedFrameIsCut : Prop :=
  ∀ (i : Instr) (f : List Byte) (s : State) (k : Nat) (e : Token), frameOf i = some f → s.csN = .high →
    outcomeAt s 0 = .fail k e → k ≤ f.length → exec i s = .next (cut 1 k e f s)

/-- 41_protocol_engine.md section 1 (the spec's decision D31; log 6): a write that never returns leaves the core busy
with chip-select low and no new status. -/
def Obligations.NeverReturningWriteHangs : Prop :=
  ∀ (i : Instr) (f : List Byte) (s : State), frameOf i = some f → s.csN = .high → outcomeAt s 0 = .never →
    exec i s = .next (stuck 1 f [] s)

/-- 30_encoding.md section 1, 40_bitorder_codec.md section 3: what the receiver assembles from the events an
instruction adds is exactly its natural frame, one frame, for every instruction that sends one: SEND_COMMAND and its
nine wire commands, WRITE_GRAM and CMD_WRITE_GRAM, SHOW (from start coordinates 0, 0, the spec's decision D8, log 21),
SET_BRIGHTNESS (the value masked, the spec's decisions D14 and D15, log 21) and DEINIT from Active. -/
def Obligations.ReceiverGetsTheNaturalFrame : Prop :=
  (∀ (i : Instr) (f : List Byte) (s : State), frameOf i = some f → s.csN = .high → outcomeAt s 0 = .ok →
      ∃ t added, exec i s = .next t ∧ t.trace = s.trace ++ added ∧ framesOf added = [f]) ∧
    (∀ (i : Instr) (buf : List Byte) (xs ys : Byte) (s : State), bufferOf i = some (buf, xs, ys) →
      buf.length = 4096 → s.csN = .high → outcomeAt s 0 = .ok → outcomeAt s 1 = .ok →
      ∃ t added, exec i s = .next t ∧ t.trace = s.trace ++ added ∧
        framesOf added = [[Command.writeGram.op, xs, ys] ++ buf]) ∧
    (∀ (c : Canvas) (s : State), s.csN = .high → outcomeAt s 0 = .ok → outcomeAt s 1 = .ok →
      ∃ t added, exec (.showFrame c) s = .next t ∧ t.trace = s.trace ++ added ∧ framesOf added = [showBytes c]) ∧
    (∀ (v : Nat) (s : State), s.csN = .high → outcomeAt s 0 = .ok →
      ∃ (t : State) (added : List Event) (w : BitVec 16), w.toNat = v % 65536 ∧ exec (.setBrightness v) s = .next t ∧
        t.trace = s.trace ++ added ∧ framesOf added = [[Command.brightness.op, w.setWidth 8, (w >>> 8).setWidth 8]]) ∧
    (∀ s : State, s.lifecycle = .active → s.csN = .high → outcomeAt s 0 = .ok →
      ∃ t added, exec .deinit s = .next t ∧ t.trace = s.trace ++ added ∧
        framesOf added = [[Command.enterStandby.op]])

/-- 41_protocol_engine.md section 4: WRITE_GRAM and CMD_WRITE_GRAM send header and buffer in one assertion, in two
writes (the spec's decision D17); the whole next state. -/
def Obligations.WriteGramSendsHeaderAndBuffer : Prop :=
  ∀ (i : Instr) (buf : List Byte) (xs ys : Byte) (s : State), bufferOf i = some (buf, xs, ys) →
    buf.length = 4096 → s.csN = .high → outcomeAt s 0 = .ok → outcomeAt s 1 = .ok →
    exec i s = .next (sent 2 ([Command.writeGram.op, xs, ys] ++ buf) s)

/-- 41_protocol_engine.md section 4: a failure in the header leaves the buffer unsent; one in the buffer cuts the
frame behind the header (the spec's decisions D16, D17). -/
def Obligations.WriteGramFailureCutsTheFrame : Prop :=
  ∀ (i : Instr) (buf : List Byte) (xs ys : Byte) (s : State) (k : Nat) (e : Token),
    bufferOf i = some (buf, xs, ys) → buf.length = 4096 → s.csN = .high →
    (outcomeAt s 0 = .fail k e → k ≤ 3 →
      exec i s = .next (cut 1 k e ([Command.writeGram.op, xs, ys] ++ buf) s)) ∧
    (outcomeAt s 0 = .ok → outcomeAt s 1 = .fail k e → k ≤ 4096 →
      exec i s = .next (cut 2 (3 + k) e ([Command.writeGram.op, xs, ys] ++ buf) s))

/-- 41_protocol_engine.md section 1 (the spec's decision D31; log 6): either of the two writes of write-gram may never
return; that header and buffer are two writes is the spec's decision D17 (log 21). -/
def Obligations.WriteGramCanHang : Prop :=
  ∀ (i : Instr) (buf : List Byte) (xs ys : Byte) (s : State), bufferOf i = some (buf, xs, ys) →
    buf.length = 4096 → s.csN = .high →
    (outcomeAt s 0 = .never → exec i s = .next (stuck 1 ([Command.writeGram.op, xs, ys] ++ buf) [] s)) ∧
    (outcomeAt s 0 = .ok → outcomeAt s 1 = .never →
      exec i s = .next (stuck 2 ([Command.writeGram.op, xs, ys] ++ buf) [Command.writeGram.op, xs, ys] s))

/-- 60_exceptions.md R241: a buffer of another length than 4096 is a protocol error, code 2 with no token, with no
effect but STATUS, from an idle core, which stays idle; no other instruction returns a protocol error, and none with a
buffer of 4096 bytes does. -/
def Obligations.ProtocolErrorIsTheShapeCheck : Prop :=
  (∀ (i : Instr) (buf : List Byte) (xs ys : Byte) (s : State), bufferOf i = some (buf, xs, ys) →
      buf.length ≠ 4096 → s.seq = .idle → s.busy = false → exec i s = .next { s with status := .protocolError }) ∧
    (∀ (i : Instr) (s t : State), exec i s = .next t → t.busy = false → t.status = .protocolError →
      ∃ buf xs ys, bufferOf i = some (buf, xs, ys) ∧ buf.length ≠ 4096) ∧
    statusCode .protocolError = 2 ∧ statusToken .protocolError = none

/-! ### GRAMTransformer -/

/-- 44_gram_transformer.md section 1: the loops of TRANSFORM, with stride 8, duplication 2 and the patch last, give
the gather form, which the spec marks as derived from them, at every address, in a canonical memory of 4096 bytes;
nothing else changes but the returned status. -/
def Obligations.TransformEqualsGather : Prop :=
  ∀ (c : Canvas) (s : State), ∃ m : Memory,
    exec (.transform c) s = .next { s with gram := m, status := .ok, busy := false } ∧
      Memory.wf m = true ∧ Memory.below 4096 m = true ∧ ∀ a, a < 4096 → Memory.read m a = gather c a

/-- 44_gram_transformer.md R202: bytes 6 and 7 of every GRAM column are 0x00 after TRANSFORM. -/
def Obligations.TransformZeroesTheInvisibleBytes : Prop :=
  ∀ (c : Canvas) (s : State), ∃ t, exec (.transform c) s = .next t ∧
    ∀ col, col < 512 → Memory.read t.gram (col * 8 + 6) = 0x00 ∧ Memory.read t.gram (col * 8 + 7) = 0x00

/-- 44_gram_transformer.md R203: byte 0 is 0xFF after every TRANSFORM, whatever the canvas and the state; address 8,
the second copy of the same canvas byte, keeps the canvas value, and no other address is patched. -/
def Obligations.TransformForcesTheTrigger : Prop :=
  ∀ (c : Canvas) (s : State), ∃ t, exec (.transform c) s = .next t ∧
    Memory.read t.gram 0 = 0xFF ∧ Memory.read t.gram 8 = canvasRead c 0 0 ∧
    ∀ a, 0 < a → a < 4096 →
      Memory.read t.gram a = if a % 8 ≤ 5 then canvasRead c (a % 8) (a / 16) else 0x00

/-- 44_gram_transformer.md section 2: both copies of every canvas byte but (0, 0) are in place. -/
def Obligations.TransformDuplicatesEveryByte : Prop :=
  ∀ (c : Canvas) (s : State) (x g : Nat), x < 256 → g < 6 → (x, g) ≠ (0, 0) →
    ∃ t, exec (.transform c) s = .next t ∧
      Memory.read t.gram (2 * x * 8 + g) = canvasRead c g x ∧
      Memory.read t.gram ((2 * x + 1) * 8 + g) = canvasRead c g x

/-- 44_gram_transformer.md section 1 (the spec's decisions D13, D24): canvases that read alike give one and the same
buffer, from any two states, and it is sent as 4096 bytes. -/
def Obligations.TransformDependsOnTheCanvasAlone : Prop :=
  ∀ (c c' : Canvas) (s s' : State), (∀ g x, g < 6 → x < 256 → canvasRead c g x = canvasRead c' g x) →
    ∃ t t', exec (.transform c) s = .next t ∧ exec (.transform c') s' = .next t' ∧ t.gram = t'.gram ∧
      (gramStream t.gram).length = 4096

/-- 44_gram_transformer.md section 1: pixel (`x`, `y`) of the canvas is the bit at vertical position `y` of GRAM
columns `2x` and `2x + 1`, but for the first copy of the pixels (0, 0) to (0, 7). -/
def Obligations.PixelLandsInTwoColumns : Prop :=
  ∀ (c : Canvas) (s : State) (x y d : Nat), x < 256 → y < 48 → d < 2 → ¬(x = 0 ∧ y < 8 ∧ d = 0) →
    ∃ t, exec (.transform c) s = .next t ∧
      (Memory.read t.gram ((2 * x + d) * 8 + y / 8)).getLsbD (y % 8) = (canvasRead c (y / 8) x).getLsbD (y % 8)

/-- 44_gram_transformer.md section 2: the all-zero canvas gives 0xFF and 4095 zeros, which is the buffer that an INIT
that completes has sent, from start coordinates 0, 0 (the spec's decision D8, log 21), and leaves in GRAM (the spec's
decision D24; log 12). -/
def Obligations.AllZeroCanvasGivesTheClearBuffer : Prop :=
  ∀ (c : Canvas) (s : State), (∀ g x, g < 6 → x < 256 → canvasRead c g x = 0x00) →
    (∃ t, exec (.transform c) s = .next t ∧ gramStream t.gram = 0xFF :: List.replicate 4095 0x00) ∧
      (s.lifecycle ≠ .standby → s.csN = .high → s.rstN = .high → (∀ n, n < 8 → outcomeAt s n = .ok) →
        ∃ u before after, exec .init s = .next u ∧ gramStream u.gram = 0xFF :: List.replicate 4095 0x00 ∧
          u.trace = s.trace ++ before ++ frameEvents ([Command.writeGram.op, 0x00, 0x00] ++ gramStream u.gram) ++ after)

/-- 44_gram_transformer.md R208: the pixel at column 5, row 3 gives bit 3 in byte 0 of columns 10 and 11, and all
other bytes but the trigger are zero. -/
def Obligations.SinglePixelScenario : Prop :=
  ∀ (c : Canvas) (s : State), canvasRead c 0 5 = 0x08 →
    (∀ g x, g < 6 → x < 256 → (g, x) ≠ (0, 5) → canvasRead c g x = 0x00) →
    ∃ t, exec (.transform c) s = .next t ∧ Memory.read t.gram 80 = 0x08 ∧ Memory.read t.gram 88 = 0x08 ∧
      Memory.read t.gram 0 = 0xFF ∧
      ∀ a, a < 4096 → a ≠ 80 → a ≠ 88 → a ≠ 0 → Memory.read t.gram a = 0x00

/-! ### Host operations -/

/-- 45_host_operations.md, SHOW: SHOW leaves the transformed canvas in GRAM and sends it as one frame from start
coordinates 0, 0 (the spec's decision D8); the whole next state. -/
def Obligations.ShowSendsTheTransformedCanvas : Prop :=
  ∀ (c : Canvas) (s : State), s.csN = .high → outcomeAt s 0 = .ok → outcomeAt s 1 = .ok →
    ∃ m : Memory, Memory.wf m = true ∧ Memory.below 4096 m = true ∧
      (∀ a, a < 4096 → Memory.read m a = gather c a) ∧
      exec (.showFrame c) s = .next (sent 2 (showBytes c) { s with gram := m })

/-- 45_host_operations.md, SHOW: a failing SHOW has sent a prefix of its frame, is not repeated, and leaves LIFECYCLE
and BRIGHTNESS; GRAM holds the transformed canvas. The start coordinates 0, 0 are the spec's decision D8, the header
and the buffer as two writes its decision D17, the whole-byte prefix its decision D16 (log 21). -/
def Obligations.ShowFailureCutsTheFrame : Prop :=
  ∀ (c : Canvas) (s : State) (k : Nat) (e : Token), s.csN = .high →
    ∃ m : Memory, (∀ a, a < 4096 → Memory.read m a = gather c a) ∧
      (outcomeAt s 0 = .fail k e → k ≤ 3 →
        exec (.showFrame c) s = .next (cut 1 k e (showBytes c) { s with gram := m })) ∧
      (outcomeAt s 0 = .ok → outcomeAt s 1 = .fail k e → k ≤ 4096 →
        exec (.showFrame c) s = .next (cut 2 (3 + k) e (showBytes c) { s with gram := m }))

/-- 45_host_operations.md, SET_BRIGHTNESS: the value modulo 65536 is stored and sent low byte first (the spec's
decisions D14, D15), for every natural number; the whole next state. -/
def Obligations.SetBrightnessStoresAndSends : Prop :=
  ∀ (v : Nat) (s : State), s.csN = .high → outcomeAt s 0 = .ok →
    ∃ w : BitVec 16, w.toNat = v % 65536 ∧
      exec (.setBrightness v) s =
        .next (sent 1 [Command.brightness.op, w.setWidth 8, (w >>> 8).setWidth 8] { s with brightness := w })

/-- 45_host_operations.md, SET_BRIGHTNESS: the store survives a failed send (the spec's decision D14). -/
def Obligations.SetBrightnessSurvivesAFailedSend : Prop :=
  ∀ (v : Nat) (s : State) (k : Nat) (e : Token), s.csN = .high → outcomeAt s 0 = .fail k e → k ≤ 3 →
    ∃ w : BitVec 16, w.toNat = v % 65536 ∧
      exec (.setBrightness v) s =
        .next (cut 1 k e [Command.brightness.op, w.setWidth 8, (w >>> 8).setWidth 8]
          { s with brightness := w })

/-! ### InitSequencer -/

/-- 43_init_sequencer.md section 2 (the spec's decisions D8 to D10, D12, D26): from every lifecycle state but Standby
and with a transport that completes its eight writes, INIT appends exactly the trace of the table, which is 4139
events from FIL_EN 0, and ends Active; the whole next state. -/
def Obligations.InitReachesActive : Prop :=
  (∀ s : State, s.lifecycle ≠ .standby → s.csN = .high → s.rstN = .high → (∀ n, n < 8 → outcomeAt s n = .ok) →
      exec .init s = .next { afterWrites 8 s with
        lifecycle := .active, seq := .idle, status := .ok, busy := false, operands := [], desync := false
        interrupted := false, gram := [(0, 0xFF)], csN := .high, rstN := .high, filEn := .high
        trace := s.trace ++ initEvents s.brightness s.filEn }) ∧
    (∀ b, (initEvents b .low).length = 4139) ∧ (∀ b, (initEvents b .high).length = 4138)

/-- 43_init_sequencer.md section 2: what the receiver gets from a successful INIT is the seven natural frames, in the
fixed order, and at least 130 ms are spent in its four waits. The start coordinates 0, 0 of the all-clear frame are
the spec's decision D8, and that INIT runs in every state but Standby its decision D10 (log 21). -/
def Obligations.InitDeliversSevenFrames : Prop :=
  ∀ s : State, s.lifecycle ≠ .standby → s.csN = .high → s.rstN = .high → (∀ n, n < 8 → outcomeAt s n = .ok) →
    ∃ t added, exec .init s = .next t ∧ t.trace = s.trace ++ added ∧ framesOf added = initFrames s.brightness ∧
      waitedMs added = 130

/-- 43_init_sequencer.md section 2: whatever the transport does, an INIT that is not refused begins with the hardware
reset pulse and its two waits. -/
def Obligations.InitBeginsWithTheHardwareReset : Prop :=
  ∀ s : State, s.lifecycle ≠ .standby → s.rstN = .high →
    ∃ t, exec .init s = .next t ∧
      (s.trace ++ [.rstN .low, .wait 10, .rstN .high, .wait 50]) <+: t.trace ∧ t.rstN = .high

/-- 43_init_sequencer.md section 2 (the spec's decision D9): where a failed INIT rests. If the `j`-th of its eight
writes is the first to fail, LIFECYCLE is Reset for the first and Configuring for the others, FIL_EN and BRIGHTNESS
are as at entry, and no later write is made. -/
def Obligations.FailedInitRests : Prop :=
  ∀ (s : State) (j k : Nat) (e : Token), j < 8 → s.lifecycle ≠ .standby → s.csN = .high → s.rstN = .high →
    (∀ n, n < j → outcomeAt s n = .ok) → outcomeAt s j = .fail k e →
    ∃ t, exec .init s = .next t ∧ t.lifecycle = initLifecycle j ∧ t.seq = .idle ∧ t.status = .ioFailure e ∧
      t.desync = true ∧ t.csN = .high ∧ t.rstN = .high ∧ t.filEn = s.filEn ∧ t.brightness = s.brightness ∧
      t.interrupted = false ∧ t.result = s.result ∧ t.config = s.config ∧ t.busy = false ∧ t.draws = s.draws + (j + 1)

/-- 10_state.md section 3, 41_protocol_engine.md section 1 (the spec's decisions D31, D35; log 6): if the `j`-th write
of INIT never returns, SEQ stands at the step that made it, in the fixed order of the sequence. -/
def Obligations.HangingInitStandsAtItsStep : Prop :=
  ∀ (s : State) (j : Nat), j < 8 → s.lifecycle ≠ .standby → s.csN = .high → s.rstN = .high →
    (∀ n, n < j → outcomeAt s n = .ok) → outcomeAt s j = .never →
    ∃ t, exec .init s = .next t ∧ t.busy = true ∧ t.csN = .low ∧ initPositions[j]? = some t.seq ∧
      t.lifecycle = initLifecycle j ∧ t.status = s.status ∧ t.filEn = s.filEn ∧ t.rstN = .high ∧
      t.brightness = s.brightness ∧ t.desync = false ∧ t.interrupted = false

/-- 43_init_sequencer.md section 2 (the spec's decision D10; log 10): INIT in Standby is refused, and the state it
leaves differs in STATUS alone. -/
def Obligations.InitInStandbyIsRefused : Prop :=
  ∀ s : State, s.lifecycle = .standby → exec .init s = .refused (.initInStandby { s with status := .refused })

/-- 43_init_sequencer.md section 2, 95_test_vectors.md Scenario E: two successive INITs both complete, the Device is
Active after each, and the second appends the same events as the first but for the filament edge. -/
def Obligations.ReinitialisationIsNotAnError : Prop :=
  ∀ s : State, s.lifecycle ≠ .standby → s.csN = .high → s.rstN = .high → (∀ n, n < 16 → outcomeAt s n = .ok) →
    ∃ t u added, exec .init s = .next t ∧ exec .init t = .next u ∧ t.lifecycle = .active ∧ t.status = .ok ∧
      u.lifecycle = .active ∧ u.status = .ok ∧ t.filEn = .high ∧ u.filEn = .high ∧
      u.trace = t.trace ++ added ∧
      t.trace = s.trace ++ added ++ (match s.filEn with
        | .low => [.filEn .high]
        | .high => [])

/-- 43_init_sequencer.md section 3: DEINIT from Active turns the filament off, sends enter-standby and ends in
Standby; the whole next state. -/
def Obligations.DeinitFromActiveEntersStandby : Prop :=
  ∀ s : State, s.lifecycle = .active → s.csN = .high → outcomeAt s 0 = .ok →
    exec .deinit s = .next { sent 1 [Command.enterStandby.op] (filamentOff s) with
      lifecycle := .standby, seq := .idle }

/-- 43_init_sequencer.md section 3 (the spec's decision D11): DEINIT in every other state turns the filament off and
does nothing else. -/
def Obligations.DeinitElsewhereOnlyTurnsTheFilamentOff : Prop :=
  ∀ s : State, s.lifecycle ≠ .active →
    exec .deinit s = .next { filamentOff s with seq := .idle, status := .ok, busy := false }

/-- 43_init_sequencer.md section 3: a DEINIT whose command fails has turned the filament off and stays Active. -/
def Obligations.FailedDeinitStaysActive : Prop :=
  ∀ (s : State) (k : Nat) (e : Token), s.lifecycle = .active → s.csN = .high → outcomeAt s 0 = .fail k e → k ≤ 1 →
    exec .deinit s = .next (cut 1 k e [Command.enterStandby.op] (filamentOff s)) ∧
      (cut 1 k e [Command.enterStandby.op] (filamentOff s)).lifecycle = .active

/-! ### Failures -/

/-- 60_exceptions.md section 1, what is not a failure, with a transport that completes its writes: a brightness of any
size, masked to 16 bits and stored (the spec's decisions D15 and D14, log 21), INIT while Active, DEINIT outside
Active, any opcode and payload, and any 4096 bytes return OK. -/
def Obligations.WhatIsNotAFailure : Prop :=
  ∀ s : State, s.csN = .high → s.rstN = .high → (∀ n, n < 8 → outcomeAt s n = .ok) →
    (∀ v : Nat, ∃ t, exec (.setBrightness v) s = .next t ∧ t.status = .ok ∧ t.busy = false ∧
      t.brightness.toNat = v % 65536) ∧
    (s.lifecycle = .active → ∃ t, exec .init s = .next t ∧ t.status = .ok ∧ t.busy = false) ∧
    (s.lifecycle ≠ .active → ∃ t, exec .deinit s = .next t ∧ t.status = .ok ∧ t.busy = false) ∧
    (∀ op payload, ∃ t, exec (.sendCommand op payload) s = .next t ∧ t.status = .ok ∧ t.busy = false) ∧
    (∀ buf xs ys, buf.length = 4096 → ∃ t, exec (.writeGram buf xs ys) s = .next t ∧ t.status = .ok ∧
      t.busy = false)

/-- 60_exceptions.md section 4: the host receives the token of the write that failed, which is the last one made;
nothing is retried, translated or swallowed. Of the `n` writes an instruction makes, all but the last returned ok, and
the last decides how it ends; that the core is then busy with no new status, if the last never returns, is the spec's
decision D31 and log 6. -/
def Obligations.TheFailingTokenIsReturnedUnchanged : Prop :=
  ∀ (i : Instr) (s t : State), exec i s = .next t →
    ∃ n, t.draws = s.draws + n ∧ t.transport = s.transport.drop n ∧
      (∀ m, m + 1 < n → outcomeAt s m = .ok) ∧
      (n = 0 → t.busy = false ∧ ∀ e, t.status ≠ .ioFailure e) ∧
      (∀ m, m + 1 = n → match outcomeAt s m with
        | .ok => t.busy = false ∧ ∀ e, t.status ≠ .ioFailure e
        | .fail _ e => t.busy = false ∧ t.status = .ioFailure e
        | .never => t.busy = true ∧ t.status = s.status)

/-- 60_exceptions.md section 4: whichever instruction returns IO_FAILURE, chip-select is back at 1, DESYNC is set, SEQ
is IDLE, no operand is in flight, SCK rests at 1 and RST_N is 1 if it was; the registers are as far as they came:
BRIGHTNESS is changed by SET_BRIGHTNESS alone, LIFECYCLE by INIT alone and FIL_EN by DEINIT alone. -/
def Obligations.FailureEntry : Prop :=
  ∀ (i : Instr) (s t : State) (e : Token), exec i s = .next t → t.busy = false → t.status = .ioFailure e →
    t.csN = .high ∧ t.desync = true ∧ t.seq = .idle ∧ t.operands = [] ∧ t.sck = .high ∧
      (s.rstN = .high → t.rstN = .high) ∧
      ((∀ v, i ≠ .setBrightness v) → t.brightness = s.brightness) ∧ (i ≠ .init → t.lifecycle = s.lifecycle) ∧
      (i ≠ .deinit → t.filEn = s.filEn)

/-! ### The whole machine -/

/-- 10_state.md sections 11 and 12: the relations hold after reset. -/
def Obligations.AtRestAfterReset : Prop := AtRest State.reset

/-- 10_state.md section 11: every step keeps the relations, with or without failures. -/
def Obligations.StepKeepsAtRest : Prop := ∀ s t : State, AtRest s → step s = .next t → AtRest t

/-- 00_scope.md section 5, 10_state.md section 12: the empty trace is legal. -/
def Obligations.TraceLegalAfterReset : Prop := TraceLegal State.reset

/-- 41_protocol_engine.md section 2, 70_reset_and_hazards.md section 3: every step keeps the trace legal: edges are
real, bytes go out only inside an assertion and nothing else happens there, and the reset pulse has its settle
times. -/
def Obligations.StepKeepsTraceLegal : Prop :=
  ∀ s t : State, AtRest s → TraceLegal s → step s = .next t → TraceLegal t

/-- 10_state.md section 10, the table of who writes what (GRAM and the result bytes: log 12, log 15; the ghost beside
DESYNC: log 23; the bus pins MOSI, held between writes, and SCK: log 14; an operation that hangs: log 6): no other
instruction changes a register, a pin or the configuration record. LIFECYCLE and FIL_EN are INIT's and DEINIT's,
BRIGHTNESS is SET_BRIGHTNESS's, RST_N is INIT's, GRAM belongs to TRANSFORM, SHOW and INIT; SEQ is INIT's and DEINIT's,
and any failure sets it to IDLE; CS_N and the bus move only where the transport is written to; DESYNC is set by a
failing write alone and cleared by INIT alone; STATUS is written at return, and not to REFUSED; the requests to come
are no instruction's to change. -/
def Obligations.EachRegisterHasItsWriters : Prop :=
  ∀ (i : Instr) (s t : State), exec i s = .next t →
    (i ≠ .init → i ≠ .deinit → t.lifecycle = s.lifecycle ∧ t.filEn = s.filEn) ∧
    ((∀ v, i ≠ .setBrightness v) → t.brightness = s.brightness) ∧
    ((∀ b, i ≠ .reverse b) → (∀ bytes, i ≠ .reverseAll bytes) → t.result = s.result) ∧
    (i ≠ .init → t.rstN = s.rstN) ∧
    (i ≠ .init → s.desync = true → t.desync = true) ∧
    (t.desync = true → (i ≠ .init ∧ s.desync = true) ∨ ReturnedIoFailure t) ∧
    (i ≠ .init → t.interrupted = s.interrupted) ∧ (i = .init → t.interrupted = false) ∧
    (rewritesGram i = false → t.gram = s.gram) ∧
    (i ≠ .init → i ≠ .deinit → t.seq = s.seq ∨
      (t.seq = .idle ∧ (ReturnedIoFailure t ∨ (t.busy = false ∧ t.status = .protocolError)))) ∧
    (drivesBus i = false → t.draws = s.draws) ∧
    (t.draws = s.draws → t.csN = s.csN ∧ t.sck = s.sck ∧ t.mosi = s.mosi ∧ t.operands = s.operands) ∧
    (t.busy = true → t.status = s.status) ∧ (t.busy = false → t.status ≠ .refused) ∧
    t.config = s.config ∧ t.inputs = s.inputs

/-- 20_memory.md sections 1 and 5: the frame of GRAM, byte by byte (that GRAM keeps its contents between operations is
log 12). An instruction other than TRANSFORM, SHOW and INIT leaves every byte; those three leave every address outside
the 4096 as it was. -/
def Obligations.GramFrame : Prop :=
  ∀ (i : Instr) (s t : State), exec i s = .next t →
    (rewritesGram i = false → ∀ a, Memory.read t.gram a = Memory.read s.gram a) ∧
    (rewritesGram i = true → Memory.below 4096 s.gram = true →
      ∀ a, 4096 ≤ a → Memory.read t.gram a = Memory.read s.gram a)

/-- 41_protocol_engine.md section 5, 45_host_operations.md (the spec's decision D13): only INIT and DEINIT depend on
LIFECYCLE; every other instruction does the same in every lifecycle state. -/
def Obligations.OnlyInitAndDeinitReadLifecycle : Prop :=
  ∀ (i : Instr) (s : State) (l : Lifecycle), i ≠ .init → i ≠ .deinit →
    ∃ t, exec i s = .next t ∧ exec i { s with lifecycle := l } = .next { t with lifecycle := l }

/-- 10_state.md sections 5 and 6 (the spec's decisions D24, D26; log 12, log 23): no instruction reads DESYNC, the
ghost beside it, or what GRAM held before. One state `t` says what the instruction does whatever the three were, and
they flow into nothing, not even into each other: GRAM is afterwards a buffer `w` that does not depend on them, or
what it was; DESYNC is a value `x` that does not, or what it was, and it is set exactly by a failure. `w` is there for
TRANSFORM and SHOW and not there for an instruction that does not rewrite GRAM (for INIT it may be either); `x` is
there for a failure and for INIT, which clears it. -/
def Obligations.DesyncAndOldGramAreNeverRead : Prop :=
  ∀ (i : Instr) (s : State), (i = .init → s.lifecycle ≠ .standby) →
    ∃ (t : State) (w : Option Memory) (x : Option Bool),
      (∀ (d b : Bool) (m : Memory), exec i { s with desync := d, interrupted := b, gram := m } =
        .next { t with
          desync := x.getD d, interrupted := if i = .init then false else b, gram := w.getD m }) ∧
      (rewritesGram i = false → w = none) ∧ (rewritesGram i = true → i ≠ .init → w.isSome = true) ∧
      (x = some true ↔ ReturnedIoFailure t) ∧ (i ≠ .init → x ≠ some false) ∧ (i = .init → x ≠ none)

/-- 60_exceptions.md section 1 (the spec's decision D10): every instruction answers a next state, but INIT in Standby.
Under a transport write that never returns the spec gives the operation no return (the spec's decision D31), and the
next state in which the core hangs is the model's choice (log 6). -/
def Obligations.OnlyInitInStandbyIsRefused : Prop :=
  ∀ (i : Instr) (s : State), (∃ t, exec i s = .next t) ↔ ¬(i = .init ∧ s.lifecycle = .standby)

/-- 00_scope.md section 5, 20_memory.md section 6: an instruction only appends to TRACE. -/
def Obligations.TraceOnlyGrows : Prop :=
  ∀ (i : Instr) (s t : State), exec i s = .next t → s.trace <+: t.trace

/-! ### Requests, reset and encoding -/

/-- 10_state.md section 8 (log 1): an idle core whose next request decodes to an instruction runs it, from the state
with that request taken and nothing else changed. -/
def Obligations.StepRunsTheDecodedInstruction : Prop :=
  ∀ (s : State) (r : Request) (rest : List Input) (i : Instr), s.busy = false → s.inputs = .request r :: rest →
    decode r = .ok i → step s = exec i { s with inputs := rest }

/-- 30_encoding.md section 6 (the spec's decision D21; log 10): selectors 9 to 15 are refused, and nothing but STATUS
changes besides the request taken. -/
def Obligations.UnknownSelectorIsRefused : Prop :=
  ∀ (s : State) (p : Ports) (rest : List Input), s.busy = false → s.inputs = .request (.op p) :: rest →
    9 ≤ p.sel.toNat →
    step s = .refused (.unknownSelector p.sel { s with inputs := rest, status := .refused })

/-- 10_state.md section 8 (the spec's decision D1; log 6, log 17): a core without a request stays as it is, and a busy
core accepts no request; an idle MOSI that holds its level is the model's choice (log 14). That the request it does
not accept is lost, so that what the outside presents next comes next, is the model's choice (log 24). -/
def Obligations.IdleAndBusyCoresStay : Prop :=
  ∀ s : State, (s.inputs = [] → step s = .next s) ∧
    ∀ r rest, s.inputs = .request r :: rest → s.busy = true → step s = .next { s with inputs := rest }

/-- 70_reset_and_hazards.md section 1 (the spec's decisions D19, D33): block reset from any state, a hanging one too.
The model's own in it are GRAM (log 12), MOSI (log 14), the empty result bytes (log 15), the ghost beside DESYNC (log
23), and that the inputs to come and the transport's plan go on (log 11, log 19). -/
def Obligations.BlockResetRestoresTheResetValues : Prop :=
  ∀ (s : State) (rest : List Input), s.inputs = .blockReset :: rest →
    step s = .next
      { lifecycle := .unpowered, seq := .idle, brightness := BitVec.ofNat 16 s.config.brightnessInit, status := .ok
        result := [], busy := false, operands := [], desync := false
        interrupted := s.interrupted || s.desync || decide (s.csN = .low), gram := [], csN := .high, rstN := .high
        filEn := .low, sck := .high, mosi := .low, config := s.config, trace := [], inputs := rest
        transport := s.transport, draws := s.draws }

/-- 10_state.md section 12 (the spec's decision D19): the reset values the spec gives. -/
def Obligations.ResetValues : Prop :=
  State.reset.lifecycle = .unpowered ∧ State.reset.seq = .idle ∧
    State.reset.brightness.toNat = Config.record.brightnessInit % 65536 ∧ State.reset.status = .ok ∧
    State.reset.desync = false ∧ State.reset.trace = [] ∧ State.reset.csN = .high ∧ State.reset.rstN = .high ∧
    State.reset.filEn = .low ∧ State.reset.sck = .high ∧ State.reset.busy = false

/-- 30_encoding.md sections 1 to 3 and 6: decoding the request of a well-formed instruction gives the instruction
back, every operand with it. -/
def Obligations.DecodeInvertsEncode : Prop := ∀ i : Instr, i.WellFormed = true → decode (encode i) = .ok i

/-- 30_encoding.md section 6 (the spec's decision D21): the nine selector codes, with every operand port. -/
def Obligations.SelectorCodesDecode : Prop :=
  ∀ (b op xs ys : Byte) (stream : List Byte) (canvas : Canvas) (v : BitVec 16),
    decode (.op ⟨0b0000, b, stream, op, xs, ys, canvas, v⟩) = .ok (.reverse b) ∧
    decode (.op ⟨0b0001, b, stream, op, xs, ys, canvas, v⟩) = .ok (.reverseAll stream) ∧
    decode (.op ⟨0b0010, b, stream, op, xs, ys, canvas, v⟩) = .ok (.sendCommand op stream) ∧
    decode (.op ⟨0b0011, b, stream, op, xs, ys, canvas, v⟩) = .ok (.writeGram stream xs ys) ∧
    decode (.op ⟨0b0100, b, stream, op, xs, ys, canvas, v⟩) = .ok (.transform canvas) ∧
    decode (.op ⟨0b0101, b, stream, op, xs, ys, canvas, v⟩) = .ok (.showFrame canvas) ∧
    decode (.op ⟨0b0110, b, stream, op, xs, ys, canvas, v⟩) = .ok (.setBrightness v.toNat) ∧
    decode (.op ⟨0b0111, b, stream, op, xs, ys, canvas, v⟩) = .ok .init ∧
    decode (.op ⟨0b1000, b, stream, op, xs, ys, canvas, v⟩) = .ok .deinit

/-- 30_encoding.md sections 1 and 3: frames written out from the command table, one for each of its ten rows, decode
to their commands; a write-gram frame with both start bytes does so with a buffer of any length, which the command
itself checks (log 20). -/
def Obligations.TableFramesDecode : Prop :=
  decode (.frame Command.reset.op []) = .ok .cmdReset ∧
    decode (.frame Command.frameSync.op []) = .ok .cmdFrameSync ∧
    decode (.frame Command.brightness.op [0b00000000, 0b00000001]) = .ok (.cmdBrightness 0x0100) ∧
    decode (.frame Command.displayMode.op [0b00000101]) = .ok (.cmdDisplayMode 0x05) ∧
    decode (.frame Command.displayOffset.op [0b00000000, 0b00111000]) = .ok (.cmdDisplayOffset 0x00 0x38) ∧
    decode (.frame Command.vfdMode.op [1, 2, 3, 4, 5, 6, 7]) = .ok (.cmdVfdMode 1 2 3 4 5 6 7) ∧
    decode (.frame Command.osc.op [0b10000001]) = .ok (.cmdOsc 0x81) ∧
    decode (.frame Command.enterStandby.op []) = .ok .cmdEnterStandby ∧
    decode (.frame Command.exitStandby.op []) = .ok .cmdExitStandby ∧
    ∀ buf : List Byte,
      decode (.frame Command.writeGram.op (0b00000001 :: 0b00000010 :: buf)) = .ok (.cmdWriteGram buf 0x01 0x02)

/-- 30_encoding.md sections 3 and 4 (the spec's decisions D3, D27; log 8, log 20): the ten opcodes are pairwise
distinct, and a frame that has the shape of no command, by its opcode or by the length of its payload, is sent as
SEND_COMMAND sends it. -/
def Obligations.OpcodesAreDistinctAndOthersAreSent : Prop :=
  (Command.all.map Command.op).Nodup ∧
    ∀ (op : Byte) (payload : List Byte), (∀ c : Command, c.op = op → takesPayload c payload.length = false) →
      decode (.frame op payload) = .ok (.sendCommand op payload)

/-- Log 2: the state made for a table word runs the word's instruction in its next step. -/
def Obligations.TableWordRunsNext : Prop :=
  ∀ (s : State) (nbits w : Nat) (i : Instr), decodeTableWord nbits w = some i →
    step (s.withFetchWord nbits w) = exec i { s with busy := false }

/-- 70_reset_and_hazards.md section 1 (the spec's decision D33; log 23): after a block reset that falls on a
transaction the controller counts as desynchronised although DESYNC is 0; every step leaves it so but the one that
runs INIT, and every INIT that is not refused ends it, because its T1 completes. -/
def Obligations.TruncatedTransactionOutlivesBlockReset : Prop :=
  (∀ (s : State) (rest : List Input), s.inputs = .blockReset :: rest → s.csN = .low →
      ∃ t, step s = .next t ∧ t.desync = false ∧ t.interrupted = true ∧ ¬ControllerInStep t) ∧
    (∀ s t : State, s.interrupted = true → step s = .next t → t.interrupted = true ∨
      (s.busy = false ∧ ∃ r rest, s.inputs = .request r :: rest ∧ decode r = .ok .init)) ∧
    ∀ s t : State, exec .init s = .next t → t.interrupted = false
end

