-- ==== Sys2Proof/Laws/Codec.lean ====
section
/-! SUPPORT. The bits of the ROM and of the wire, and REVERSE_ALL over sequences. -/

namespace Sys2Proof.Machine

/-- Bit `i` of a ROM entry is bit `7 - i` of its address. -/
theorem rom_getLsbD (b : Byte) (i : Nat) (h : i < 8) : (rom b).getLsbD i = b.getLsbD (7 - i) := by
  have hrom : ∀ b : Byte, ∀ i : Fin 8, (rom b).getLsbD i.val = b.getLsbD (7 - i.val) := by decide +kernel
  exact hrom b ⟨i, h⟩

/-- The receiver's byte has the bits in the order they came. -/
theorem wireByte_getLsbD (t : Byte) (i : Nat) (h : i < 8) : (wireByte t).getLsbD i = t.getLsbD (7 - i) := by
  have hwire : ∀ t : Byte, ∀ i : Fin 8, (wireByte t).getLsbD i.val = t.getLsbD (7 - i.val) := by decide +kernel
  exact hwire t ⟨i, h⟩

@[simp] theorem reverseAll_nil : reverseAll [] = [] := rfl

@[simp] theorem reverseAll_cons (b : Byte) (bytes : List Byte) :
    reverseAll (b :: bytes) = rom b :: reverseAll bytes := rfl

@[simp] theorem reverseAll_append (a b : List Byte) : reverseAll (a ++ b) = reverseAll a ++ reverseAll b :=
  List.map_append

@[simp] theorem reverseAll_length (bytes : List Byte) : (reverseAll bytes).length = bytes.length := List.length_map ..

end Sys2Proof.Machine
end

