-- ==== Sys2Proof/Laws/Encoding.lean ====
section
/-! SUPPORT. The command table: the opcodes are pairwise distinct, and the lookup of an opcode. -/

namespace Sys2Proof

theorem Command.index_inj (a b : Command) : a.index = b.index ↔ a = b := by
  cases a <;> cases b <;> decide

/-- Two commands with one opcode are one command. -/
@[simp] theorem Command.op_eq_iff (a b : Command) : a.op = b.op ↔ a = b := by
  simp [Command.op, Command.index_inj]

theorem Command.mem_all (c : Command) : c ∈ Command.all := by cases c <;> decide

/-- The lookup answers a command only for its own opcode. -/
theorem commandOf_eq_some {b : Byte} {c : Command} (h : commandOf b = some c) : c.op = b := by
  simpa using List.find?_some h

/-- A byte without a command is no command's opcode. -/
theorem commandOf_eq_none {b : Byte} (h : commandOf b = none) (c : Command) : c.op ≠ b := by
  simpa using List.find?_eq_none.1 h c (Command.mem_all c)

/-- The lookup of a command's opcode. -/
theorem commandOf_op (c : Command) : commandOf c.op = some c := by cases c <;> simp [commandOf, Command.all]

/-- What the frame of a command decodes to. -/
theorem decode_frame (c : Command) (payload : List Byte) :
    decode (c.frame payload) = .ok ((instrOfCommand c payload).getD (.sendCommand c.op payload)) := by
  show Except.ok (((commandOf c.op).bind _).getD _) = _
  rw [commandOf_op]
  rfl

theorem lowByte_eq (v : BitVec 16) : lowByte v = v.setWidth 8 := by
  apply BitVec.eq_of_getLsbD_eq
  intro i h
  simp only [lowByte, BitVec.getLsbD_extractLsb', BitVec.getLsbD_setWidth]
  simp

theorem highByte_eq (v : BitVec 16) : highByte v = (v >>> 8).setWidth 8 := by
  apply BitVec.eq_of_getLsbD_eq
  intro i h
  simp only [highByte, BitVec.getLsbD_extractLsb', BitVec.getLsbD_setWidth, BitVec.getLsbD_ushiftRight]

theorem lowByte_wordOfBytes (lo hi : Byte) : lowByte (wordOfBytes lo hi) = lo := by
  apply BitVec.eq_of_getLsbD_eq
  intro i h
  simp only [lowByte, wordOfBytes, BitVec.getLsbD_extractLsb', BitVec.getLsbD_or, BitVec.getLsbD_shiftLeft,
    BitVec.getLsbD_setWidth]
  simp [h, show i < 16 by omega]

theorem highByte_wordOfBytes (lo hi : Byte) : highByte (wordOfBytes lo hi) = hi := by
  apply BitVec.eq_of_getLsbD_eq
  intro i h
  simp only [highByte, wordOfBytes, BitVec.getLsbD_extractLsb', BitVec.getLsbD_or, BitVec.getLsbD_shiftLeft,
    BitVec.getLsbD_setWidth]
  simp [h, show 8 + i < 16 by omega, show i < 16 by omega]

theorem wordOfBytes_split (v : BitVec 16) : wordOfBytes (lowByte v) (highByte v) = v := by
  apply BitVec.eq_of_getLsbD_eq
  intro i h
  simp only [lowByte, highByte, wordOfBytes, BitVec.getLsbD_extractLsb', BitVec.getLsbD_or,
    BitVec.getLsbD_shiftLeft, BitVec.getLsbD_setWidth]
  by_cases h8 : i < 8
  · simp [h8, h]
  · simp [h8, h, show i - 8 < 8 by omega, show i - 8 < 16 by omega, show 8 + (i - 8) = i by omega]

end Sys2Proof
end

