-- ==== Sys2Proof/Laws/Memory.lean ====
section
/-! SUPPORT. The laws of a byte memory: a read after a write, and that every operation keeps the canonical form and
the bound of its addresses. -/

namespace Sys2Proof

open Memory

@[simp] theorem Memory.read_nil (a : Nat) : Memory.read [] a = unlistedByte := rfl

@[simp] theorem Memory.read_cons_cell (b : Nat) (v : Byte) (m : Memory) (a : Nat) :
    Memory.read ((b, v) :: m) a = if a = b then v else Memory.read m a := rfl

@[simp] theorem Memory.wfFrom_nil (lo : Nat) : Memory.wfFrom lo [] = true := rfl

theorem Memory.wfFrom_cell (lo a : Nat) (v : Byte) (m : Memory) :
    Memory.wfFrom lo ((a, v) :: m) = true ↔ lo ≤ a ∧ v ≠ unlistedByte ∧ Memory.wfFrom (a + 1) m = true := by
  simp [Memory.wfFrom, and_assoc]

/-- A memory that is canonical from an address on is so from every lower one. -/
theorem Memory.wfFrom_mono {lo hi : Nat} (h : lo ≤ hi) {m : Memory} (hm : Memory.wfFrom hi m = true) :
    Memory.wfFrom lo m = true := by
  cases m with
  | nil => rfl
  | cons c m =>
    obtain ⟨a, v⟩ := c
    rw [Memory.wfFrom_cell] at hm ⊢
    exact ⟨h.trans hm.1, hm.2⟩

/-- Below its first address a canonical memory lists nothing. -/
theorem Memory.read_of_lt {lo : Nat} {m : Memory} (hm : Memory.wfFrom lo m = true) {a : Nat} (h : a < lo) :
    Memory.read m a = unlistedByte := by
  induction m generalizing lo with
  | nil => rfl
  | cons c m ih =>
    obtain ⟨b, v⟩ := c
    rw [Memory.wfFrom_cell] at hm
    rw [Memory.read_cons_cell, if_neg (by omega)]
    exact ih hm.2.2 (by omega)

theorem Memory.read_cons {a : Nat} {v : Byte} {m : Memory} (hm : Memory.wfFrom (a + 1) m = true) (b : Nat) :
    Memory.read (Memory.cons a v m) b = if b = a then v else Memory.read m b := by
  unfold Memory.cons
  split
  · next hv =>
    split
    · next hb => rw [hb, hv]; exact Memory.read_of_lt hm (by omega)
    · rfl
  · rfl

theorem Memory.cons_wfFrom {lo a : Nat} {v : Byte} {m : Memory} (h : lo ≤ a)
    (hm : Memory.wfFrom (a + 1) m = true) : Memory.wfFrom lo (Memory.cons a v m) = true := by
  unfold Memory.cons
  split
  · exact Memory.wfFrom_mono (by omega) hm
  · next hv => exact (Memory.wfFrom_cell ..).2 ⟨h, hv, hm⟩

/-- A write keeps the canonical form. -/
theorem Memory.write_wfFrom {lo : Nat} {m : Memory} (hm : Memory.wfFrom lo m = true) {a : Nat} (h : lo ≤ a)
    (v : Byte) : Memory.wfFrom lo (Memory.write m a v) = true := by
  induction m generalizing lo with
  | nil => exact Memory.cons_wfFrom h rfl
  | cons c m ih =>
    obtain ⟨b, w⟩ := c
    have hc := (Memory.wfFrom_cell ..).1 hm
    unfold Memory.write
    split
    · next hab =>
      exact Memory.cons_wfFrom h ((Memory.wfFrom_cell ..).2 ⟨by omega, hc.2⟩)
    · split
      · next hab => exact Memory.cons_wfFrom h (hab ▸ hc.2.2)
      · exact (Memory.wfFrom_cell ..).2 ⟨hc.1, hc.2.1, ih hc.2.2 (by omega)⟩

theorem Memory.write_wf {m : Memory} (hm : Memory.wf m = true) (a : Nat) (v : Byte) :
    Memory.wf (Memory.write m a v) = true := Memory.write_wfFrom hm (Nat.zero_le a) v

/-- Reading a byte after a write: the byte written at its address, what was there at every other. -/
theorem Memory.read_write_from {lo : Nat} {m : Memory} (hm : Memory.wfFrom lo m = true) (a : Nat) (v : Byte)
    (b : Nat) (h : lo ≤ a) : Memory.read (Memory.write m a v) b = if b = a then v else Memory.read m b := by
  induction m generalizing lo with
  | nil => exact Memory.read_cons rfl b
  | cons c m ih =>
    obtain ⟨d, w⟩ := c
    have hc := (Memory.wfFrom_cell ..).1 hm
    unfold Memory.write
    split
    · next had => exact Memory.read_cons ((Memory.wfFrom_cell ..).2 ⟨by omega, hc.2⟩) b
    · split
      · next had =>
        subst had
        rw [Memory.read_cons hc.2.2, Memory.read_cons_cell]
        split <;> rfl
      · rw [Memory.read_cons_cell, Memory.read_cons_cell, ih hc.2.2 (by omega)]
        split
        · next hbd => rw [if_neg (by omega)]
        · rfl

theorem Memory.read_write {m : Memory} (hm : Memory.wf m = true) (a : Nat) (v : Byte) (b : Nat) :
    Memory.read (Memory.write m a v) b = if b = a then v else Memory.read m b :=
  Memory.read_write_from hm a v b (Nat.zero_le a)

theorem Memory.below_cell (n a : Nat) (v : Byte) (m : Memory) :
    Memory.below n ((a, v) :: m) = true ↔ a < n ∧ Memory.below n m = true := by
  simp [Memory.below]

theorem Memory.cons_below {n a : Nat} {v : Byte} {m : Memory} (ha : a < n) (hm : Memory.below n m = true) :
    Memory.below n (Memory.cons a v m) = true := by
  unfold Memory.cons
  split
  · exact hm
  · exact (Memory.below_cell ..).2 ⟨ha, hm⟩

/-- A write below the bound keeps every address below it. -/
theorem Memory.write_below {n : Nat} {m : Memory} (hm : Memory.below n m = true) {a : Nat} (ha : a < n) (v : Byte) :
    Memory.below n (Memory.write m a v) = true := by
  induction m with
  | nil => exact Memory.cons_below ha hm
  | cons c m ih =>
    obtain ⟨b, w⟩ := c
    have hc := (Memory.below_cell ..).1 hm
    unfold Memory.write
    split
    · exact Memory.cons_below ha hm
    · split
      · exact Memory.cons_below ha hc.2
      · exact (Memory.below_cell ..).2 ⟨hc.1, ih hc.2⟩

/-- Beyond the bound of its addresses a memory lists nothing. -/
theorem Memory.read_of_below {n : Nat} {m : Memory} (hm : Memory.below n m = true) {a : Nat} (h : n ≤ a) :
    Memory.read m a = unlistedByte := by
  induction m with
  | nil => rfl
  | cons c m ih =>
    obtain ⟨b, v⟩ := c
    have hc := (Memory.below_cell ..).1 hm
    rw [Memory.read_cons_cell, if_neg (by omega)]
    exact ih hc.2

theorem Memory.zeroed_wf : Memory.wf Memory.zeroed = true := rfl

theorem Memory.zeroed_below (n : Nat) : Memory.below n Memory.zeroed = true := rfl

@[simp] theorem Memory.read_zeroed (a : Nat) : Memory.read Memory.zeroed a = 0x00 := rfl

/-- Two canonical memories that read alike everywhere are the same list. -/
theorem Memory.ext_read {lo : Nat} {m m' : Memory} (hm : Memory.wfFrom lo m = true)
    (hm' : Memory.wfFrom lo m' = true) (h : ∀ a, Memory.read m a = Memory.read m' a) : m = m' := by
  induction m generalizing lo m' with
  | nil =>
    cases m' with
    | nil => rfl
    | cons c' m' =>
      obtain ⟨b, w⟩ := c'
      have hc := (Memory.wfFrom_cell ..).1 hm'
      have := h b
      simp at this
      exact absurd this.symm hc.2.1
  | cons c m ih =>
    obtain ⟨a, v⟩ := c
    have hc := (Memory.wfFrom_cell ..).1 hm
    cases m' with
    | nil =>
      have := h a
      simp at this
      exact absurd this hc.2.1
    | cons c' m' =>
      obtain ⟨b, w⟩ := c'
      have hc' := (Memory.wfFrom_cell ..).1 hm'
      have hab : a = b := by
        rcases Nat.lt_trichotomy a b with hlt | heq | hgt
        · have := h a
          rw [Memory.read_cons_cell, if_pos rfl, Memory.read_cons_cell, if_neg (by omega),
            Memory.read_of_lt hc'.2.2 (by omega)] at this
          exact absurd this hc.2.1
        · exact heq
        · have := h b
          rw [Memory.read_cons_cell, if_neg (by omega), Memory.read_of_lt hc.2.2 (by omega),
            Memory.read_cons_cell, if_pos rfl] at this
          exact absurd this.symm hc'.2.1
      subst hab
      have hv : v = w := by simpa using h a
      subst hv
      congr 1
      refine ih hc.2.2 hc'.2.2 fun x => ?_
      by_cases hx : x = a
      · subst hx
        rw [Memory.read_of_lt hc.2.2 (by omega), Memory.read_of_lt hc'.2.2 (by omega)]
      · have := h x
        rwa [Memory.read_cons_cell, if_neg hx, Memory.read_cons_cell, if_neg hx] at this

/-- The fill loop of 44_gram_transformer.md R200, written out: bytes 0 to `n - 1` are set to 0x00. -/
def Memory.filled (n : Nat) (m : Memory) : Memory := (List.range n).foldl (fun m a => Memory.write m a 0x00) m

theorem Memory.filled_succ (n : Nat) (m : Memory) :
    Memory.filled (n + 1) m = Memory.write (Memory.filled n m) n 0x00 := by
  simp [Memory.filled, List.range_succ]

theorem Memory.filled_wf {m : Memory} (hm : Memory.wf m = true) (n : Nat) : Memory.wf (Memory.filled n m) = true := by
  induction n with
  | zero => exact hm
  | succ n ih => rw [Memory.filled_succ]; exact Memory.write_wf ih ..

theorem Memory.read_filled {m : Memory} (hm : Memory.wf m = true) (n a : Nat) :
    Memory.read (Memory.filled n m) a = if a < n then 0x00 else Memory.read m a := by
  induction n with
  | zero => rfl
  | succ n ih =>
    rw [Memory.filled_succ, Memory.read_write (Memory.filled_wf hm n), ih]
    split
    · next h => rw [if_pos (by omega)]
    · split
      · next h => rw [if_pos (by omega)]
      · next h => rw [if_neg (by omega)]

/-- On a sound GRAM the fill loop gives `Memory.zeroed`, the form the model uses for it (log 13). -/
theorem Memory.filled_eq_zeroed {m : Memory} (hm : Memory.wf m = true) (hb : Memory.below gramBytes m = true) :
    Memory.filled gramBytes m = Memory.zeroed := by
  refine Memory.ext_read (Memory.filled_wf hm _) Memory.zeroed_wf fun a => ?_
  rw [Memory.read_filled hm, Memory.read_zeroed]
  split
  · rfl
  · next h => exact Memory.read_of_below hb (by omega)

end Sys2Proof
end

