-- ==== Sys2Proof/Laws/PerInstr.lean ====
section
/-! SUPPORT. Facts about every instruction as syntax, one lemma per constructor. -/

namespace Sys2Proof.Laws.EncodeShape

/-- An instruction's request is at the table's level for it: one of the nine selectors (30_encoding.md R100), or a
frame that begins with a command's opcode and has the table's length (R81), a write-gram buffer counted as it is. -/
def Statement (i : Instr) : Prop :=
  match encode i with
  | .op p => p.sel.toNat < 9
  | .frame op payload => ∃ c : Command, op = c.op ∧ (payload.length = c.payloadLength ∨
      ∃ buf xs ys, i = .cmdWriteGram buf xs ys ∧ c = .writeGram ∧ payload.length = buf.length + 2)

theorem cmdReset : Statement .cmdReset := ⟨.reset, rfl, .inl rfl⟩
theorem cmdFrameSync : Statement .cmdFrameSync := ⟨.frameSync, rfl, .inl rfl⟩
theorem cmdBrightness (v : BitVec 16) : Statement (.cmdBrightness v) := ⟨.brightness, rfl, .inl rfl⟩
theorem cmdDisplayMode (m : Byte) : Statement (.cmdDisplayMode m) := ⟨.displayMode, rfl, .inl rfl⟩
theorem cmdDisplayOffset (x y : Byte) : Statement (.cmdDisplayOffset x y) := ⟨.displayOffset, rfl, .inl rfl⟩
theorem cmdVfdMode (c0 c1 c2 c3 c4 c5 c6 : Byte) : Statement (.cmdVfdMode c0 c1 c2 c3 c4 c5 c6) :=
  ⟨.vfdMode, rfl, .inl rfl⟩
theorem cmdOsc (setting : Byte) : Statement (.cmdOsc setting) := ⟨.osc, rfl, .inl rfl⟩
theorem cmdEnterStandby : Statement .cmdEnterStandby := ⟨.enterStandby, rfl, .inl rfl⟩
theorem cmdExitStandby : Statement .cmdExitStandby := ⟨.exitStandby, rfl, .inl rfl⟩
theorem cmdWriteGram (buf : List Byte) (xs ys : Byte) : Statement (.cmdWriteGram buf xs ys) :=
  ⟨.writeGram, rfl, .inr ⟨buf, xs, ys, rfl, rfl, rfl⟩⟩
theorem reverse (b : Byte) : Statement (.reverse b) := (by decide : 0 < 9)
theorem reverseAll (bytes : List Byte) : Statement (.reverseAll bytes) := (by decide : 1 < 9)
theorem sendCommand (op : Byte) (payload : List Byte) : Statement (.sendCommand op payload) := (by decide : 2 < 9)
theorem writeGram (buf : List Byte) (xs ys : Byte) : Statement (.writeGram buf xs ys) := (by decide : 3 < 9)
theorem transform (canvas : Canvas) : Statement (.transform canvas) := (by decide : 4 < 9)
theorem showFrame (canvas : Canvas) : Statement (.showFrame canvas) := (by decide : 5 < 9)
theorem setBrightness (v : Nat) : Statement (.setBrightness v) := (by decide : 6 < 9)
theorem init : Statement .init := (by decide : 7 < 9)
theorem deinit : Statement .deinit := (by decide : 8 < 9)

end Sys2Proof.Laws.EncodeShape
end

