-- ==== Sys2Proof/Laws/State.lean ====
section
/-! SUPPORT. One lemma per field of State per update, each true by `rfl`, so that no later proof unfolds a record
update. -/

namespace Sys2Proof.Machine

variable (s : State)

/-! ### markDesync -/

@[simp] theorem markDesync_lifecycle : (markDesync s).lifecycle = s.lifecycle := rfl
@[simp] theorem markDesync_seq : (markDesync s).seq = s.seq := rfl
@[simp] theorem markDesync_brightness : (markDesync s).brightness = s.brightness := rfl
@[simp] theorem markDesync_status : (markDesync s).status = s.status := rfl
@[simp] theorem markDesync_result : (markDesync s).result = s.result := rfl
@[simp] theorem markDesync_busy : (markDesync s).busy = s.busy := rfl
@[simp] theorem markDesync_operands : (markDesync s).operands = s.operands := rfl
@[simp] theorem markDesync_desync : (markDesync s).desync = true := rfl
@[simp] theorem markDesync_interrupted : (markDesync s).interrupted = s.interrupted := rfl
@[simp] theorem markDesync_gram : (markDesync s).gram = s.gram := rfl
@[simp] theorem markDesync_csN : (markDesync s).csN = s.csN := rfl
@[simp] theorem markDesync_rstN : (markDesync s).rstN = s.rstN := rfl
@[simp] theorem markDesync_filEn : (markDesync s).filEn = s.filEn := rfl
@[simp] theorem markDesync_sck : (markDesync s).sck = s.sck := rfl
@[simp] theorem markDesync_mosi : (markDesync s).mosi = s.mosi := rfl
@[simp] theorem markDesync_config : (markDesync s).config = s.config := rfl
@[simp] theorem markDesync_trace : (markDesync s).trace = s.trace := rfl
@[simp] theorem markDesync_inputs : (markDesync s).inputs = s.inputs := rfl
@[simp] theorem markDesync_transport : (markDesync s).transport = s.transport := rfl
@[simp] theorem markDesync_draws : (markDesync s).draws = s.draws := rfl

/-! ### clearDesync -/

@[simp] theorem clearDesync_lifecycle : (clearDesync s).lifecycle = s.lifecycle := rfl
@[simp] theorem clearDesync_seq : (clearDesync s).seq = s.seq := rfl
@[simp] theorem clearDesync_brightness : (clearDesync s).brightness = s.brightness := rfl
@[simp] theorem clearDesync_status : (clearDesync s).status = s.status := rfl
@[simp] theorem clearDesync_result : (clearDesync s).result = s.result := rfl
@[simp] theorem clearDesync_busy : (clearDesync s).busy = s.busy := rfl
@[simp] theorem clearDesync_operands : (clearDesync s).operands = s.operands := rfl
@[simp] theorem clearDesync_desync : (clearDesync s).desync = false := rfl
@[simp] theorem clearDesync_interrupted : (clearDesync s).interrupted = false := rfl
@[simp] theorem clearDesync_gram : (clearDesync s).gram = s.gram := rfl
@[simp] theorem clearDesync_csN : (clearDesync s).csN = s.csN := rfl
@[simp] theorem clearDesync_rstN : (clearDesync s).rstN = s.rstN := rfl
@[simp] theorem clearDesync_filEn : (clearDesync s).filEn = s.filEn := rfl
@[simp] theorem clearDesync_sck : (clearDesync s).sck = s.sck := rfl
@[simp] theorem clearDesync_mosi : (clearDesync s).mosi = s.mosi := rfl
@[simp] theorem clearDesync_config : (clearDesync s).config = s.config := rfl
@[simp] theorem clearDesync_trace : (clearDesync s).trace = s.trace := rfl
@[simp] theorem clearDesync_inputs : (clearDesync s).inputs = s.inputs := rfl
@[simp] theorem clearDesync_transport : (clearDesync s).transport = s.transport := rfl
@[simp] theorem clearDesync_draws : (clearDesync s).draws = s.draws := rfl

/-! ### driveCsN -/

@[simp] theorem driveCsN_lifecycle (l : Level) : (driveCsN l s).lifecycle = s.lifecycle := rfl
@[simp] theorem driveCsN_seq (l : Level) : (driveCsN l s).seq = s.seq := rfl
@[simp] theorem driveCsN_brightness (l : Level) : (driveCsN l s).brightness = s.brightness := rfl
@[simp] theorem driveCsN_status (l : Level) : (driveCsN l s).status = s.status := rfl
@[simp] theorem driveCsN_result (l : Level) : (driveCsN l s).result = s.result := rfl
@[simp] theorem driveCsN_busy (l : Level) : (driveCsN l s).busy = s.busy := rfl
@[simp] theorem driveCsN_operands (l : Level) : (driveCsN l s).operands = s.operands := rfl
@[simp] theorem driveCsN_desync (l : Level) : (driveCsN l s).desync = s.desync := rfl
@[simp] theorem driveCsN_interrupted (l : Level) : (driveCsN l s).interrupted = s.interrupted := rfl
@[simp] theorem driveCsN_gram (l : Level) : (driveCsN l s).gram = s.gram := rfl
@[simp] theorem driveCsN_csN (l : Level) : (driveCsN l s).csN = l := rfl
@[simp] theorem driveCsN_rstN (l : Level) : (driveCsN l s).rstN = s.rstN := rfl
@[simp] theorem driveCsN_filEn (l : Level) : (driveCsN l s).filEn = s.filEn := rfl
@[simp] theorem driveCsN_sck (l : Level) : (driveCsN l s).sck = s.sck := rfl
@[simp] theorem driveCsN_mosi (l : Level) : (driveCsN l s).mosi = s.mosi := rfl
@[simp] theorem driveCsN_config (l : Level) : (driveCsN l s).config = s.config := rfl
@[simp] theorem driveCsN_trace (l : Level) : (driveCsN l s).trace = s.trace ++ edge .csN s.csN l := rfl
@[simp] theorem driveCsN_inputs (l : Level) : (driveCsN l s).inputs = s.inputs := rfl
@[simp] theorem driveCsN_transport (l : Level) : (driveCsN l s).transport = s.transport := rfl
@[simp] theorem driveCsN_draws (l : Level) : (driveCsN l s).draws = s.draws := rfl

/-! ### driveRstN -/

@[simp] theorem driveRstN_lifecycle (l : Level) : (driveRstN l s).lifecycle = s.lifecycle := rfl
@[simp] theorem driveRstN_seq (l : Level) : (driveRstN l s).seq = s.seq := rfl
@[simp] theorem driveRstN_brightness (l : Level) : (driveRstN l s).brightness = s.brightness := rfl
@[simp] theorem driveRstN_status (l : Level) : (driveRstN l s).status = s.status := rfl
@[simp] theorem driveRstN_result (l : Level) : (driveRstN l s).result = s.result := rfl
@[simp] theorem driveRstN_busy (l : Level) : (driveRstN l s).busy = s.busy := rfl
@[simp] theorem driveRstN_operands (l : Level) : (driveRstN l s).operands = s.operands := rfl
@[simp] theorem driveRstN_desync (l : Level) : (driveRstN l s).desync = s.desync := rfl
@[simp] theorem driveRstN_interrupted (l : Level) : (driveRstN l s).interrupted = s.interrupted := rfl
@[simp] theorem driveRstN_gram (l : Level) : (driveRstN l s).gram = s.gram := rfl
@[simp] theorem driveRstN_csN (l : Level) : (driveRstN l s).csN = s.csN := rfl
@[simp] theorem driveRstN_rstN (l : Level) : (driveRstN l s).rstN = l := rfl
@[simp] theorem driveRstN_filEn (l : Level) : (driveRstN l s).filEn = s.filEn := rfl
@[simp] theorem driveRstN_sck (l : Level) : (driveRstN l s).sck = s.sck := rfl
@[simp] theorem driveRstN_mosi (l : Level) : (driveRstN l s).mosi = s.mosi := rfl
@[simp] theorem driveRstN_config (l : Level) : (driveRstN l s).config = s.config := rfl
@[simp] theorem driveRstN_trace (l : Level) : (driveRstN l s).trace = s.trace ++ edge .rstN s.rstN l := rfl
@[simp] theorem driveRstN_inputs (l : Level) : (driveRstN l s).inputs = s.inputs := rfl
@[simp] theorem driveRstN_transport (l : Level) : (driveRstN l s).transport = s.transport := rfl
@[simp] theorem driveRstN_draws (l : Level) : (driveRstN l s).draws = s.draws := rfl

/-! ### driveFilEn -/

@[simp] theorem driveFilEn_lifecycle (l : Level) : (driveFilEn l s).lifecycle = s.lifecycle := rfl
@[simp] theorem driveFilEn_seq (l : Level) : (driveFilEn l s).seq = s.seq := rfl
@[simp] theorem driveFilEn_brightness (l : Level) : (driveFilEn l s).brightness = s.brightness := rfl
@[simp] theorem driveFilEn_status (l : Level) : (driveFilEn l s).status = s.status := rfl
@[simp] theorem driveFilEn_result (l : Level) : (driveFilEn l s).result = s.result := rfl
@[simp] theorem driveFilEn_busy (l : Level) : (driveFilEn l s).busy = s.busy := rfl
@[simp] theorem driveFilEn_operands (l : Level) : (driveFilEn l s).operands = s.operands := rfl
@[simp] theorem driveFilEn_desync (l : Level) : (driveFilEn l s).desync = s.desync := rfl
@[simp] theorem driveFilEn_interrupted (l : Level) : (driveFilEn l s).interrupted = s.interrupted := rfl
@[simp] theorem driveFilEn_gram (l : Level) : (driveFilEn l s).gram = s.gram := rfl
@[simp] theorem driveFilEn_csN (l : Level) : (driveFilEn l s).csN = s.csN := rfl
@[simp] theorem driveFilEn_rstN (l : Level) : (driveFilEn l s).rstN = s.rstN := rfl
@[simp] theorem driveFilEn_filEn (l : Level) : (driveFilEn l s).filEn = l := rfl
@[simp] theorem driveFilEn_sck (l : Level) : (driveFilEn l s).sck = s.sck := rfl
@[simp] theorem driveFilEn_mosi (l : Level) : (driveFilEn l s).mosi = s.mosi := rfl
@[simp] theorem driveFilEn_config (l : Level) : (driveFilEn l s).config = s.config := rfl
@[simp] theorem driveFilEn_trace (l : Level) : (driveFilEn l s).trace = s.trace ++ edge .filEn s.filEn l := rfl
@[simp] theorem driveFilEn_inputs (l : Level) : (driveFilEn l s).inputs = s.inputs := rfl
@[simp] theorem driveFilEn_transport (l : Level) : (driveFilEn l s).transport = s.transport := rfl
@[simp] theorem driveFilEn_draws (l : Level) : (driveFilEn l s).draws = s.draws := rfl

/-! ### wait -/

@[simp] theorem wait_lifecycle (d : Nat) : (wait d s).lifecycle = s.lifecycle := rfl
@[simp] theorem wait_seq (d : Nat) : (wait d s).seq = s.seq := rfl
@[simp] theorem wait_brightness (d : Nat) : (wait d s).brightness = s.brightness := rfl
@[simp] theorem wait_status (d : Nat) : (wait d s).status = s.status := rfl
@[simp] theorem wait_result (d : Nat) : (wait d s).result = s.result := rfl
@[simp] theorem wait_busy (d : Nat) : (wait d s).busy = s.busy := rfl
@[simp] theorem wait_operands (d : Nat) : (wait d s).operands = s.operands := rfl
@[simp] theorem wait_desync (d : Nat) : (wait d s).desync = s.desync := rfl
@[simp] theorem wait_interrupted (d : Nat) : (wait d s).interrupted = s.interrupted := rfl
@[simp] theorem wait_gram (d : Nat) : (wait d s).gram = s.gram := rfl
@[simp] theorem wait_csN (d : Nat) : (wait d s).csN = s.csN := rfl
@[simp] theorem wait_rstN (d : Nat) : (wait d s).rstN = s.rstN := rfl
@[simp] theorem wait_filEn (d : Nat) : (wait d s).filEn = s.filEn := rfl
@[simp] theorem wait_sck (d : Nat) : (wait d s).sck = s.sck := rfl
@[simp] theorem wait_mosi (d : Nat) : (wait d s).mosi = s.mosi := rfl
@[simp] theorem wait_config (d : Nat) : (wait d s).config = s.config := rfl
@[simp] theorem wait_trace (d : Nat) : (wait d s).trace = s.trace ++ [.wait d] := rfl
@[simp] theorem wait_inputs (d : Nat) : (wait d s).inputs = s.inputs := rfl
@[simp] theorem wait_transport (d : Nat) : (wait d s).transport = s.transport := rfl
@[simp] theorem wait_draws (d : Nat) : (wait d s).draws = s.draws := rfl

/-! ### setSeq -/

@[simp] theorem setSeq_lifecycle (p : Seq) : (setSeq p s).lifecycle = s.lifecycle := rfl
@[simp] theorem setSeq_seq (p : Seq) : (setSeq p s).seq = p := rfl
@[simp] theorem setSeq_brightness (p : Seq) : (setSeq p s).brightness = s.brightness := rfl
@[simp] theorem setSeq_status (p : Seq) : (setSeq p s).status = s.status := rfl
@[simp] theorem setSeq_result (p : Seq) : (setSeq p s).result = s.result := rfl
@[simp] theorem setSeq_busy (p : Seq) : (setSeq p s).busy = s.busy := rfl
@[simp] theorem setSeq_operands (p : Seq) : (setSeq p s).operands = s.operands := rfl
@[simp] theorem setSeq_desync (p : Seq) : (setSeq p s).desync = s.desync := rfl
@[simp] theorem setSeq_interrupted (p : Seq) : (setSeq p s).interrupted = s.interrupted := rfl
@[simp] theorem setSeq_gram (p : Seq) : (setSeq p s).gram = s.gram := rfl
@[simp] theorem setSeq_csN (p : Seq) : (setSeq p s).csN = s.csN := rfl
@[simp] theorem setSeq_rstN (p : Seq) : (setSeq p s).rstN = s.rstN := rfl
@[simp] theorem setSeq_filEn (p : Seq) : (setSeq p s).filEn = s.filEn := rfl
@[simp] theorem setSeq_sck (p : Seq) : (setSeq p s).sck = s.sck := rfl
@[simp] theorem setSeq_mosi (p : Seq) : (setSeq p s).mosi = s.mosi := rfl
@[simp] theorem setSeq_config (p : Seq) : (setSeq p s).config = s.config := rfl
@[simp] theorem setSeq_trace (p : Seq) : (setSeq p s).trace = s.trace := rfl
@[simp] theorem setSeq_inputs (p : Seq) : (setSeq p s).inputs = s.inputs := rfl
@[simp] theorem setSeq_transport (p : Seq) : (setSeq p s).transport = s.transport := rfl
@[simp] theorem setSeq_draws (p : Seq) : (setSeq p s).draws = s.draws := rfl

/-! ### setLifecycle -/

@[simp] theorem setLifecycle_lifecycle (l : Lifecycle) : (setLifecycle l s).lifecycle = l := rfl
@[simp] theorem setLifecycle_seq (l : Lifecycle) : (setLifecycle l s).seq = s.seq := rfl
@[simp] theorem setLifecycle_brightness (l : Lifecycle) : (setLifecycle l s).brightness = s.brightness := rfl
@[simp] theorem setLifecycle_status (l : Lifecycle) : (setLifecycle l s).status = s.status := rfl
@[simp] theorem setLifecycle_result (l : Lifecycle) : (setLifecycle l s).result = s.result := rfl
@[simp] theorem setLifecycle_busy (l : Lifecycle) : (setLifecycle l s).busy = s.busy := rfl
@[simp] theorem setLifecycle_operands (l : Lifecycle) : (setLifecycle l s).operands = s.operands := rfl
@[simp] theorem setLifecycle_desync (l : Lifecycle) : (setLifecycle l s).desync = s.desync := rfl
@[simp] theorem setLifecycle_interrupted (l : Lifecycle) : (setLifecycle l s).interrupted = s.interrupted := rfl
@[simp] theorem setLifecycle_gram (l : Lifecycle) : (setLifecycle l s).gram = s.gram := rfl
@[simp] theorem setLifecycle_csN (l : Lifecycle) : (setLifecycle l s).csN = s.csN := rfl
@[simp] theorem setLifecycle_rstN (l : Lifecycle) : (setLifecycle l s).rstN = s.rstN := rfl
@[simp] theorem setLifecycle_filEn (l : Lifecycle) : (setLifecycle l s).filEn = s.filEn := rfl
@[simp] theorem setLifecycle_sck (l : Lifecycle) : (setLifecycle l s).sck = s.sck := rfl
@[simp] theorem setLifecycle_mosi (l : Lifecycle) : (setLifecycle l s).mosi = s.mosi := rfl
@[simp] theorem setLifecycle_config (l : Lifecycle) : (setLifecycle l s).config = s.config := rfl
@[simp] theorem setLifecycle_trace (l : Lifecycle) : (setLifecycle l s).trace = s.trace := rfl
@[simp] theorem setLifecycle_inputs (l : Lifecycle) : (setLifecycle l s).inputs = s.inputs := rfl
@[simp] theorem setLifecycle_transport (l : Lifecycle) : (setLifecycle l s).transport = s.transport := rfl
@[simp] theorem setLifecycle_draws (l : Lifecycle) : (setLifecycle l s).draws = s.draws := rfl

/-! ### setBrightness -/

@[simp] theorem setBrightness_lifecycle (v : BitVec 16) : (setBrightness v s).lifecycle = s.lifecycle := rfl
@[simp] theorem setBrightness_seq (v : BitVec 16) : (setBrightness v s).seq = s.seq := rfl
@[simp] theorem setBrightness_brightness (v : BitVec 16) : (setBrightness v s).brightness = v := rfl
@[simp] theorem setBrightness_status (v : BitVec 16) : (setBrightness v s).status = s.status := rfl
@[simp] theorem setBrightness_result (v : BitVec 16) : (setBrightness v s).result = s.result := rfl
@[simp] theorem setBrightness_busy (v : BitVec 16) : (setBrightness v s).busy = s.busy := rfl
@[simp] theorem setBrightness_operands (v : BitVec 16) : (setBrightness v s).operands = s.operands := rfl
@[simp] theorem setBrightness_desync (v : BitVec 16) : (setBrightness v s).desync = s.desync := rfl
@[simp] theorem setBrightness_interrupted (v : BitVec 16) : (setBrightness v s).interrupted = s.interrupted := rfl
@[simp] theorem setBrightness_gram (v : BitVec 16) : (setBrightness v s).gram = s.gram := rfl
@[simp] theorem setBrightness_csN (v : BitVec 16) : (setBrightness v s).csN = s.csN := rfl
@[simp] theorem setBrightness_rstN (v : BitVec 16) : (setBrightness v s).rstN = s.rstN := rfl
@[simp] theorem setBrightness_filEn (v : BitVec 16) : (setBrightness v s).filEn = s.filEn := rfl
@[simp] theorem setBrightness_sck (v : BitVec 16) : (setBrightness v s).sck = s.sck := rfl
@[simp] theorem setBrightness_mosi (v : BitVec 16) : (setBrightness v s).mosi = s.mosi := rfl
@[simp] theorem setBrightness_config (v : BitVec 16) : (setBrightness v s).config = s.config := rfl
@[simp] theorem setBrightness_trace (v : BitVec 16) : (setBrightness v s).trace = s.trace := rfl
@[simp] theorem setBrightness_inputs (v : BitVec 16) : (setBrightness v s).inputs = s.inputs := rfl
@[simp] theorem setBrightness_transport (v : BitVec 16) : (setBrightness v s).transport = s.transport := rfl
@[simp] theorem setBrightness_draws (v : BitVec 16) : (setBrightness v s).draws = s.draws := rfl

/-! ### setGram -/

@[simp] theorem setGram_lifecycle (m : Memory) : (setGram m s).lifecycle = s.lifecycle := rfl
@[simp] theorem setGram_seq (m : Memory) : (setGram m s).seq = s.seq := rfl
@[simp] theorem setGram_brightness (m : Memory) : (setGram m s).brightness = s.brightness := rfl
@[simp] theorem setGram_status (m : Memory) : (setGram m s).status = s.status := rfl
@[simp] theorem setGram_result (m : Memory) : (setGram m s).result = s.result := rfl
@[simp] theorem setGram_busy (m : Memory) : (setGram m s).busy = s.busy := rfl
@[simp] theorem setGram_operands (m : Memory) : (setGram m s).operands = s.operands := rfl
@[simp] theorem setGram_desync (m : Memory) : (setGram m s).desync = s.desync := rfl
@[simp] theorem setGram_interrupted (m : Memory) : (setGram m s).interrupted = s.interrupted := rfl
@[simp] theorem setGram_gram (m : Memory) : (setGram m s).gram = m := rfl
@[simp] theorem setGram_csN (m : Memory) : (setGram m s).csN = s.csN := rfl
@[simp] theorem setGram_rstN (m : Memory) : (setGram m s).rstN = s.rstN := rfl
@[simp] theorem setGram_filEn (m : Memory) : (setGram m s).filEn = s.filEn := rfl
@[simp] theorem setGram_sck (m : Memory) : (setGram m s).sck = s.sck := rfl
@[simp] theorem setGram_mosi (m : Memory) : (setGram m s).mosi = s.mosi := rfl
@[simp] theorem setGram_config (m : Memory) : (setGram m s).config = s.config := rfl
@[simp] theorem setGram_trace (m : Memory) : (setGram m s).trace = s.trace := rfl
@[simp] theorem setGram_inputs (m : Memory) : (setGram m s).inputs = s.inputs := rfl
@[simp] theorem setGram_transport (m : Memory) : (setGram m s).transport = s.transport := rfl
@[simp] theorem setGram_draws (m : Memory) : (setGram m s).draws = s.draws := rfl

/-! ### tx -/

@[simp] theorem tx_lifecycle (t : List Byte) : (tx t s).lifecycle = s.lifecycle := rfl
@[simp] theorem tx_seq (t : List Byte) : (tx t s).seq = s.seq := rfl
@[simp] theorem tx_brightness (t : List Byte) : (tx t s).brightness = s.brightness := rfl
@[simp] theorem tx_status (t : List Byte) : (tx t s).status = s.status := rfl
@[simp] theorem tx_result (t : List Byte) : (tx t s).result = s.result := rfl
@[simp] theorem tx_busy (t : List Byte) : (tx t s).busy = s.busy := rfl
@[simp] theorem tx_operands (t : List Byte) : (tx t s).operands = s.operands := rfl
@[simp] theorem tx_desync (t : List Byte) : (tx t s).desync = s.desync := rfl
@[simp] theorem tx_interrupted (t : List Byte) : (tx t s).interrupted = s.interrupted := rfl
@[simp] theorem tx_gram (t : List Byte) : (tx t s).gram = s.gram := rfl
@[simp] theorem tx_csN (t : List Byte) : (tx t s).csN = s.csN := rfl
@[simp] theorem tx_rstN (t : List Byte) : (tx t s).rstN = s.rstN := rfl
@[simp] theorem tx_filEn (t : List Byte) : (tx t s).filEn = s.filEn := rfl
@[simp] theorem tx_sck (t : List Byte) : (tx t s).sck = sckAfter (nextOutcome s) s.draws := rfl
@[simp] theorem tx_mosi (t : List Byte) : (tx t s).mosi = Config.mosiLevel s.draws := rfl
@[simp] theorem tx_config (t : List Byte) : (tx t s).config = s.config := rfl
@[simp] theorem tx_trace (t : List Byte) : (tx t s).trace = s.trace ++ (shiftedOut (nextOutcome s) t).map .tx := rfl
@[simp] theorem tx_inputs (t : List Byte) : (tx t s).inputs = s.inputs := rfl
@[simp] theorem tx_transport (t : List Byte) : (tx t s).transport = s.transport.tail := rfl
@[simp] theorem tx_draws (t : List Byte) : (tx t s).draws = s.draws + 1 := rfl

/-! ### respond -/

@[simp] theorem respond_lifecycle (st : Status) : (respond st s).lifecycle = s.lifecycle := rfl
@[simp] theorem respond_seq (st : Status) : (respond st s).seq = s.seq := rfl
@[simp] theorem respond_brightness (st : Status) : (respond st s).brightness = s.brightness := rfl
@[simp] theorem respond_status (st : Status) : (respond st s).status = st := rfl
@[simp] theorem respond_result (st : Status) : (respond st s).result = s.result := rfl
@[simp] theorem respond_busy (st : Status) : (respond st s).busy = false := rfl
@[simp] theorem respond_operands (st : Status) : (respond st s).operands = s.operands := rfl
@[simp] theorem respond_desync (st : Status) : (respond st s).desync = s.desync := rfl
@[simp] theorem respond_interrupted (st : Status) : (respond st s).interrupted = s.interrupted := rfl
@[simp] theorem respond_gram (st : Status) : (respond st s).gram = s.gram := rfl
@[simp] theorem respond_csN (st : Status) : (respond st s).csN = s.csN := rfl
@[simp] theorem respond_rstN (st : Status) : (respond st s).rstN = s.rstN := rfl
@[simp] theorem respond_filEn (st : Status) : (respond st s).filEn = s.filEn := rfl
@[simp] theorem respond_sck (st : Status) : (respond st s).sck = s.sck := rfl
@[simp] theorem respond_mosi (st : Status) : (respond st s).mosi = s.mosi := rfl
@[simp] theorem respond_config (st : Status) : (respond st s).config = s.config := rfl
@[simp] theorem respond_trace (st : Status) : (respond st s).trace = s.trace := rfl
@[simp] theorem respond_inputs (st : Status) : (respond st s).inputs = s.inputs := rfl
@[simp] theorem respond_transport (st : Status) : (respond st s).transport = s.transport := rfl
@[simp] theorem respond_draws (st : Status) : (respond st s).draws = s.draws := rfl

/-! ### setResult -/

@[simp] theorem setResult_lifecycle (r : List Byte) : (setResult r s).lifecycle = s.lifecycle := rfl
@[simp] theorem setResult_seq (r : List Byte) : (setResult r s).seq = s.seq := rfl
@[simp] theorem setResult_brightness (r : List Byte) : (setResult r s).brightness = s.brightness := rfl
@[simp] theorem setResult_status (r : List Byte) : (setResult r s).status = s.status := rfl
@[simp] theorem setResult_result (r : List Byte) : (setResult r s).result = r := rfl
@[simp] theorem setResult_busy (r : List Byte) : (setResult r s).busy = s.busy := rfl
@[simp] theorem setResult_operands (r : List Byte) : (setResult r s).operands = s.operands := rfl
@[simp] theorem setResult_desync (r : List Byte) : (setResult r s).desync = s.desync := rfl
@[simp] theorem setResult_interrupted (r : List Byte) : (setResult r s).interrupted = s.interrupted := rfl
@[simp] theorem setResult_gram (r : List Byte) : (setResult r s).gram = s.gram := rfl
@[simp] theorem setResult_csN (r : List Byte) : (setResult r s).csN = s.csN := rfl
@[simp] theorem setResult_rstN (r : List Byte) : (setResult r s).rstN = s.rstN := rfl
@[simp] theorem setResult_filEn (r : List Byte) : (setResult r s).filEn = s.filEn := rfl
@[simp] theorem setResult_sck (r : List Byte) : (setResult r s).sck = s.sck := rfl
@[simp] theorem setResult_mosi (r : List Byte) : (setResult r s).mosi = s.mosi := rfl
@[simp] theorem setResult_config (r : List Byte) : (setResult r s).config = s.config := rfl
@[simp] theorem setResult_trace (r : List Byte) : (setResult r s).trace = s.trace := rfl
@[simp] theorem setResult_inputs (r : List Byte) : (setResult r s).inputs = s.inputs := rfl
@[simp] theorem setResult_transport (r : List Byte) : (setResult r s).transport = s.transport := rfl
@[simp] theorem setResult_draws (r : List Byte) : (setResult r s).draws = s.draws := rfl

/-! ### returnOk -/

@[simp] theorem returnOk_lifecycle : (returnOk s).lifecycle = s.lifecycle := rfl
@[simp] theorem returnOk_seq : (returnOk s).seq = s.seq := rfl
@[simp] theorem returnOk_brightness : (returnOk s).brightness = s.brightness := rfl
@[simp] theorem returnOk_status : (returnOk s).status = .ok := rfl
@[simp] theorem returnOk_result : (returnOk s).result = s.result := rfl
@[simp] theorem returnOk_busy : (returnOk s).busy = false := rfl
@[simp] theorem returnOk_operands : (returnOk s).operands = s.operands := rfl
@[simp] theorem returnOk_desync : (returnOk s).desync = s.desync := rfl
@[simp] theorem returnOk_interrupted : (returnOk s).interrupted = s.interrupted := rfl
@[simp] theorem returnOk_gram : (returnOk s).gram = s.gram := rfl
@[simp] theorem returnOk_csN : (returnOk s).csN = s.csN := rfl
@[simp] theorem returnOk_rstN : (returnOk s).rstN = s.rstN := rfl
@[simp] theorem returnOk_filEn : (returnOk s).filEn = s.filEn := rfl
@[simp] theorem returnOk_sck : (returnOk s).sck = s.sck := rfl
@[simp] theorem returnOk_mosi : (returnOk s).mosi = s.mosi := rfl
@[simp] theorem returnOk_config : (returnOk s).config = s.config := rfl
@[simp] theorem returnOk_trace : (returnOk s).trace = s.trace := rfl
@[simp] theorem returnOk_inputs : (returnOk s).inputs = s.inputs := rfl
@[simp] theorem returnOk_transport : (returnOk s).transport = s.transport := rfl
@[simp] theorem returnOk_draws : (returnOk s).draws = s.draws := rfl

/-! ### takeFailure -/

@[simp] theorem takeFailure_lifecycle (f : Failure) : (takeFailure f s).lifecycle = s.lifecycle := rfl
@[simp] theorem takeFailure_seq (f : Failure) : (takeFailure f s).seq = .idle := rfl
@[simp] theorem takeFailure_brightness (f : Failure) : (takeFailure f s).brightness = s.brightness := rfl
@[simp] theorem takeFailure_status (f : Failure) : (takeFailure f s).status = statusOf f := rfl
@[simp] theorem takeFailure_result (f : Failure) : (takeFailure f s).result = s.result := rfl
@[simp] theorem takeFailure_busy (f : Failure) : (takeFailure f s).busy = false := rfl
@[simp] theorem takeFailure_operands (f : Failure) : (takeFailure f s).operands = s.operands := rfl
@[simp] theorem takeFailure_desync (f : Failure) : (takeFailure f s).desync = s.desync := rfl
@[simp] theorem takeFailure_interrupted (f : Failure) : (takeFailure f s).interrupted = s.interrupted := rfl
@[simp] theorem takeFailure_gram (f : Failure) : (takeFailure f s).gram = s.gram := rfl
@[simp] theorem takeFailure_csN (f : Failure) : (takeFailure f s).csN = s.csN := rfl
@[simp] theorem takeFailure_rstN (f : Failure) : (takeFailure f s).rstN = s.rstN := rfl
@[simp] theorem takeFailure_filEn (f : Failure) : (takeFailure f s).filEn = s.filEn := rfl
@[simp] theorem takeFailure_sck (f : Failure) : (takeFailure f s).sck = s.sck := rfl
@[simp] theorem takeFailure_mosi (f : Failure) : (takeFailure f s).mosi = s.mosi := rfl
@[simp] theorem takeFailure_config (f : Failure) : (takeFailure f s).config = s.config := rfl
@[simp] theorem takeFailure_trace (f : Failure) : (takeFailure f s).trace = s.trace := rfl
@[simp] theorem takeFailure_inputs (f : Failure) : (takeFailure f s).inputs = s.inputs := rfl
@[simp] theorem takeFailure_transport (f : Failure) : (takeFailure f s).transport = s.transport := rfl
@[simp] theorem takeFailure_draws (f : Failure) : (takeFailure f s).draws = s.draws := rfl

/-! ### refuse -/

@[simp] theorem refuse_lifecycle : (refuse s).lifecycle = s.lifecycle := rfl
@[simp] theorem refuse_seq : (refuse s).seq = s.seq := rfl
@[simp] theorem refuse_brightness : (refuse s).brightness = s.brightness := rfl
@[simp] theorem refuse_status : (refuse s).status = .refused := rfl
@[simp] theorem refuse_result : (refuse s).result = s.result := rfl
@[simp] theorem refuse_busy : (refuse s).busy = s.busy := rfl
@[simp] theorem refuse_operands : (refuse s).operands = s.operands := rfl
@[simp] theorem refuse_desync : (refuse s).desync = s.desync := rfl
@[simp] theorem refuse_interrupted : (refuse s).interrupted = s.interrupted := rfl
@[simp] theorem refuse_gram : (refuse s).gram = s.gram := rfl
@[simp] theorem refuse_csN : (refuse s).csN = s.csN := rfl
@[simp] theorem refuse_rstN : (refuse s).rstN = s.rstN := rfl
@[simp] theorem refuse_filEn : (refuse s).filEn = s.filEn := rfl
@[simp] theorem refuse_sck : (refuse s).sck = s.sck := rfl
@[simp] theorem refuse_mosi : (refuse s).mosi = s.mosi := rfl
@[simp] theorem refuse_config : (refuse s).config = s.config := rfl
@[simp] theorem refuse_trace : (refuse s).trace = s.trace := rfl
@[simp] theorem refuse_inputs : (refuse s).inputs = s.inputs := rfl
@[simp] theorem refuse_transport : (refuse s).transport = s.transport := rfl
@[simp] theorem refuse_draws : (refuse s).draws = s.draws := rfl

/-! ### hang -/

@[simp] theorem hang_lifecycle : (hang s).lifecycle = s.lifecycle := rfl
@[simp] theorem hang_seq : (hang s).seq = s.seq := rfl
@[simp] theorem hang_brightness : (hang s).brightness = s.brightness := rfl
@[simp] theorem hang_status : (hang s).status = s.status := rfl
@[simp] theorem hang_result : (hang s).result = s.result := rfl
@[simp] theorem hang_busy : (hang s).busy = true := rfl
@[simp] theorem hang_operands : (hang s).operands = s.operands := rfl
@[simp] theorem hang_desync : (hang s).desync = s.desync := rfl
@[simp] theorem hang_interrupted : (hang s).interrupted = s.interrupted := rfl
@[simp] theorem hang_gram : (hang s).gram = s.gram := rfl
@[simp] theorem hang_csN : (hang s).csN = s.csN := rfl
@[simp] theorem hang_rstN : (hang s).rstN = s.rstN := rfl
@[simp] theorem hang_filEn : (hang s).filEn = s.filEn := rfl
@[simp] theorem hang_sck : (hang s).sck = s.sck := rfl
@[simp] theorem hang_mosi : (hang s).mosi = s.mosi := rfl
@[simp] theorem hang_config : (hang s).config = s.config := rfl
@[simp] theorem hang_trace : (hang s).trace = s.trace := rfl
@[simp] theorem hang_inputs : (hang s).inputs = s.inputs := rfl
@[simp] theorem hang_transport : (hang s).transport = s.transport := rfl
@[simp] theorem hang_draws : (hang s).draws = s.draws := rfl

/-! ### beginTransaction -/

@[simp] theorem beginTransaction_lifecycle (n : List Byte) : (beginTransaction n s).lifecycle = s.lifecycle := rfl
@[simp] theorem beginTransaction_seq (n : List Byte) : (beginTransaction n s).seq = s.seq := rfl
@[simp] theorem beginTransaction_brightness (n : List Byte) : (beginTransaction n s).brightness = s.brightness := rfl
@[simp] theorem beginTransaction_status (n : List Byte) : (beginTransaction n s).status = s.status := rfl
@[simp] theorem beginTransaction_result (n : List Byte) : (beginTransaction n s).result = s.result := rfl
@[simp] theorem beginTransaction_busy (n : List Byte) : (beginTransaction n s).busy = s.busy := rfl
@[simp] theorem beginTransaction_operands (n : List Byte) : (beginTransaction n s).operands = n := rfl
@[simp] theorem beginTransaction_desync (n : List Byte) : (beginTransaction n s).desync = s.desync := rfl
@[simp] theorem beginTransaction_interrupted (n : List Byte) : (beginTransaction n s).interrupted = s.interrupted := rfl
@[simp] theorem beginTransaction_gram (n : List Byte) : (beginTransaction n s).gram = s.gram := rfl
@[simp] theorem beginTransaction_csN (n : List Byte) : (beginTransaction n s).csN = .low := rfl
@[simp] theorem beginTransaction_rstN (n : List Byte) : (beginTransaction n s).rstN = s.rstN := rfl
@[simp] theorem beginTransaction_filEn (n : List Byte) : (beginTransaction n s).filEn = s.filEn := rfl
@[simp] theorem beginTransaction_sck (n : List Byte) : (beginTransaction n s).sck = s.sck := rfl
@[simp] theorem beginTransaction_mosi (n : List Byte) : (beginTransaction n s).mosi = s.mosi := rfl
@[simp] theorem beginTransaction_config (n : List Byte) : (beginTransaction n s).config = s.config := rfl
@[simp] theorem beginTransaction_trace (n : List Byte) : (beginTransaction n s).trace = s.trace ++ edge .csN s.csN .low := rfl
@[simp] theorem beginTransaction_inputs (n : List Byte) : (beginTransaction n s).inputs = s.inputs := rfl
@[simp] theorem beginTransaction_transport (n : List Byte) : (beginTransaction n s).transport = s.transport := rfl
@[simp] theorem beginTransaction_draws (n : List Byte) : (beginTransaction n s).draws = s.draws := rfl

/-! ### endTransaction -/

@[simp] theorem endTransaction_lifecycle : (endTransaction s).lifecycle = s.lifecycle := rfl
@[simp] theorem endTransaction_seq : (endTransaction s).seq = s.seq := rfl
@[simp] theorem endTransaction_brightness : (endTransaction s).brightness = s.brightness := rfl
@[simp] theorem endTransaction_status : (endTransaction s).status = s.status := rfl
@[simp] theorem endTransaction_result : (endTransaction s).result = s.result := rfl
@[simp] theorem endTransaction_busy : (endTransaction s).busy = s.busy := rfl
@[simp] theorem endTransaction_operands : (endTransaction s).operands = [] := rfl
@[simp] theorem endTransaction_desync : (endTransaction s).desync = s.desync := rfl
@[simp] theorem endTransaction_interrupted : (endTransaction s).interrupted = s.interrupted := rfl
@[simp] theorem endTransaction_gram : (endTransaction s).gram = s.gram := rfl
@[simp] theorem endTransaction_csN : (endTransaction s).csN = .high := rfl
@[simp] theorem endTransaction_rstN : (endTransaction s).rstN = s.rstN := rfl
@[simp] theorem endTransaction_filEn : (endTransaction s).filEn = s.filEn := rfl
@[simp] theorem endTransaction_sck : (endTransaction s).sck = s.sck := rfl
@[simp] theorem endTransaction_mosi : (endTransaction s).mosi = s.mosi := rfl
@[simp] theorem endTransaction_config : (endTransaction s).config = s.config := rfl
@[simp] theorem endTransaction_trace : (endTransaction s).trace = s.trace ++ edge .csN s.csN .high := rfl
@[simp] theorem endTransaction_inputs : (endTransaction s).inputs = s.inputs := rfl
@[simp] theorem endTransaction_transport : (endTransaction s).transport = s.transport := rfl
@[simp] theorem endTransaction_draws : (endTransaction s).draws = s.draws := rfl

/-! ### withInputs -/

@[simp] theorem withInputs_lifecycle (rest : List Input) : (withInputs rest s).lifecycle = s.lifecycle := rfl
@[simp] theorem withInputs_seq (rest : List Input) : (withInputs rest s).seq = s.seq := rfl
@[simp] theorem withInputs_brightness (rest : List Input) : (withInputs rest s).brightness = s.brightness := rfl
@[simp] theorem withInputs_status (rest : List Input) : (withInputs rest s).status = s.status := rfl
@[simp] theorem withInputs_result (rest : List Input) : (withInputs rest s).result = s.result := rfl
@[simp] theorem withInputs_busy (rest : List Input) : (withInputs rest s).busy = s.busy := rfl
@[simp] theorem withInputs_operands (rest : List Input) : (withInputs rest s).operands = s.operands := rfl
@[simp] theorem withInputs_desync (rest : List Input) : (withInputs rest s).desync = s.desync := rfl
@[simp] theorem withInputs_interrupted (rest : List Input) : (withInputs rest s).interrupted = s.interrupted := rfl
@[simp] theorem withInputs_gram (rest : List Input) : (withInputs rest s).gram = s.gram := rfl
@[simp] theorem withInputs_csN (rest : List Input) : (withInputs rest s).csN = s.csN := rfl
@[simp] theorem withInputs_rstN (rest : List Input) : (withInputs rest s).rstN = s.rstN := rfl
@[simp] theorem withInputs_filEn (rest : List Input) : (withInputs rest s).filEn = s.filEn := rfl
@[simp] theorem withInputs_sck (rest : List Input) : (withInputs rest s).sck = s.sck := rfl
@[simp] theorem withInputs_mosi (rest : List Input) : (withInputs rest s).mosi = s.mosi := rfl
@[simp] theorem withInputs_config (rest : List Input) : (withInputs rest s).config = s.config := rfl
@[simp] theorem withInputs_trace (rest : List Input) : (withInputs rest s).trace = s.trace := rfl
@[simp] theorem withInputs_inputs (rest : List Input) : (withInputs rest s).inputs = rest := rfl
@[simp] theorem withInputs_transport (rest : List Input) : (withInputs rest s).transport = s.transport := rfl
@[simp] theorem withInputs_draws (rest : List Input) : (withInputs rest s).draws = s.draws := rfl

/-! ### blockReset -/

@[simp] theorem blockReset_lifecycle : (blockReset s).lifecycle = .unpowered := rfl
@[simp] theorem blockReset_seq : (blockReset s).seq = .idle := rfl
@[simp] theorem blockReset_brightness : (blockReset s).brightness = BitVec.ofNat 16 s.config.brightnessInit := rfl
@[simp] theorem blockReset_status : (blockReset s).status = .ok := rfl
@[simp] theorem blockReset_result : (blockReset s).result = [] := rfl
@[simp] theorem blockReset_busy : (blockReset s).busy = false := rfl
@[simp] theorem blockReset_operands : (blockReset s).operands = [] := rfl
@[simp] theorem blockReset_desync : (blockReset s).desync = false := rfl
@[simp] theorem blockReset_interrupted : (blockReset s).interrupted = leavesInterrupted s := rfl
@[simp] theorem blockReset_gram : (blockReset s).gram = [] := rfl
@[simp] theorem blockReset_csN : (blockReset s).csN = .high := rfl
@[simp] theorem blockReset_rstN : (blockReset s).rstN = .high := rfl
@[simp] theorem blockReset_filEn : (blockReset s).filEn = .low := rfl
@[simp] theorem blockReset_sck : (blockReset s).sck = .high := rfl
@[simp] theorem blockReset_mosi : (blockReset s).mosi = .low := rfl
@[simp] theorem blockReset_config : (blockReset s).config = s.config := rfl
@[simp] theorem blockReset_trace : (blockReset s).trace = [] := rfl
@[simp] theorem blockReset_inputs : (blockReset s).inputs = s.inputs := rfl
@[simp] theorem blockReset_transport : (blockReset s).transport = s.transport := rfl
@[simp] theorem blockReset_draws : (blockReset s).draws = s.draws := rfl

/-! ### present -/

@[simp] theorem present_lifecycle (r : Request) : (present r s).lifecycle = s.lifecycle := rfl
@[simp] theorem present_seq (r : Request) : (present r s).seq = s.seq := rfl
@[simp] theorem present_brightness (r : Request) : (present r s).brightness = s.brightness := rfl
@[simp] theorem present_status (r : Request) : (present r s).status = s.status := rfl
@[simp] theorem present_result (r : Request) : (present r s).result = s.result := rfl
@[simp] theorem present_busy (r : Request) : (present r s).busy = false := rfl
@[simp] theorem present_operands (r : Request) : (present r s).operands = s.operands := rfl
@[simp] theorem present_desync (r : Request) : (present r s).desync = s.desync := rfl
@[simp] theorem present_interrupted (r : Request) : (present r s).interrupted = s.interrupted := rfl
@[simp] theorem present_gram (r : Request) : (present r s).gram = s.gram := rfl
@[simp] theorem present_csN (r : Request) : (present r s).csN = s.csN := rfl
@[simp] theorem present_rstN (r : Request) : (present r s).rstN = s.rstN := rfl
@[simp] theorem present_filEn (r : Request) : (present r s).filEn = s.filEn := rfl
@[simp] theorem present_sck (r : Request) : (present r s).sck = s.sck := rfl
@[simp] theorem present_mosi (r : Request) : (present r s).mosi = s.mosi := rfl
@[simp] theorem present_config (r : Request) : (present r s).config = s.config := rfl
@[simp] theorem present_trace (r : Request) : (present r s).trace = s.trace := rfl
@[simp] theorem present_inputs (r : Request) : (present r s).inputs = .request r :: s.inputs := rfl
@[simp] theorem present_transport (r : Request) : (present r s).transport = s.transport := rfl
@[simp] theorem present_draws (r : Request) : (present r s).draws = s.draws := rfl

end Sys2Proof.Machine
end

