-- ==== Sys2Proof/Laws/Protocol.lean ====
section
/-! SUPPORT. What the shared operations of the transport and of chip-select can do, said once: the equations of a
transaction by the transport's answers, and what every transaction leaves unchanged. -/

namespace Sys2Proof.Machine

/-! ### Edges and outcomes -/

@[simp] theorem edge_self (mk : Level → Event) (l : Level) : edge mk l l = [] := by simp [edge]

theorem edge_of_ne (mk : Level → Event) {was l : Level} (h : was ≠ l) : edge mk was l = [mk l] := by simp [edge, h]

@[simp] theorem edge_high_low (mk : Level → Event) : edge mk .high .low = [mk .low] := rfl

@[simp] theorem edge_low_high (mk : Level → Event) : edge mk .low .high = [mk .high] := rfl

@[simp] theorem shiftedOut_ok (t : List Byte) : shiftedOut .ok t = t := rfl

@[simp] theorem shiftedOut_fail (k : Nat) (e : Token) (t : List Byte) : shiftedOut (.fail k e) t = t.take k := rfl

@[simp] theorem shiftedOut_never (t : List Byte) : shiftedOut .never t = [] := rfl

theorem nextOutcome_eq (s : State) : nextOutcome s = outcomeAt s 0 := by simp [nextOutcome, outcomeAt]

/-- The next outcome depends on the environment's fields alone. -/
theorem nextOutcome_congr {s s' : State} (ht : s'.transport = s.transport) (hd : s'.draws = s.draws) :
    nextOutcome s' = nextOutcome s := by simp [nextOutcome, ht, hd]

theorem outcomeAt_congr {s s' : State} (ht : s'.transport = s.transport) (hd : s'.draws = s.draws) (n : Nat) :
    outcomeAt s' n = outcomeAt s n := by simp [outcomeAt, ht, hd]

@[simp] theorem outcomeAt_tx (t : List Byte) (s : State) (n : Nat) : outcomeAt (tx t s) n = outcomeAt s (n + 1) := by
  simp [outcomeAt, Nat.add_assoc, Nat.add_comm 1 n]

@[simp] theorem outcomeAt_beginTransaction (p : List Byte) (s : State) (n : Nat) :
    outcomeAt (beginTransaction p s) n = outcomeAt s n := rfl

@[simp] theorem outcomeAt_endTransaction (s : State) (n : Nat) : outcomeAt (endTransaction s) n = outcomeAt s n := rfl

/-! ### Equations of the shared operations -/

@[simp] theorem txAll_nil (s : State) : txAll [] s = .goes s := rfl

theorem txAll_ok {t : List Byte} {rest : List (List Byte)} {s : State} (h : outcomeAt s 0 = .ok) :
    txAll (t :: rest) s = txAll rest (tx t s) := by
  rw [← nextOutcome_eq] at h
  simp [txAll, h]

theorem txAll_fail {t : List Byte} {rest : List (List Byte)} {s : State} {k : Nat} {e : Token}
    (h : outcomeAt s 0 = .fail k e) : txAll (t :: rest) s = .raised (.io e) (tx t s) := by
  rw [← nextOutcome_eq] at h
  simp [txAll, h]

theorem txAll_never {t : List Byte} {rest : List (List Byte)} {s : State} (h : outcomeAt s 0 = .never) :
    txAll (t :: rest) s = .hung (tx t s) := by
  rw [← nextOutcome_eq] at h
  simp [txAll, h]

@[simp] theorem andThen_goes (s : State) (f : State → Progress) : (Progress.goes s).andThen f = f s := rfl

@[simp] theorem andThen_raised (e : Failure) (s : State) (f : State → Progress) :
    (Progress.raised e s).andThen f = .raised e s := rfl

@[simp] theorem andThen_hung (s : State) (f : State → Progress) : (Progress.hung s).andThen f = .hung s := rfl

/-- The state of a transaction after its writes, chip-select still low. -/
def writing (natural : List Byte) (s : State) : State := tx (reverseAll natural) (beginTransaction natural s)

theorem sendCommand_ok {op : Byte} {payload : List Byte} {s : State} (h : outcomeAt s 0 = .ok) :
    sendCommand op payload s = .goes (endTransaction (writing (op :: payload) s)) := by
  simp [sendCommand, transaction, frameBytes, writing, txAll_ok (s := beginTransaction (op :: payload) s) h,
    closeTransaction]

theorem sendCommand_fail {op : Byte} {payload : List Byte} {s : State} {k : Nat} {e : Token}
    (h : outcomeAt s 0 = .fail k e) :
    sendCommand op payload s = .raised (.io e) (markDesync (endTransaction (writing (op :: payload) s))) := by
  simp [sendCommand, transaction, frameBytes, writing, txAll_fail (s := beginTransaction (op :: payload) s) h,
    closeTransaction]

theorem sendCommand_never {op : Byte} {payload : List Byte} {s : State} (h : outcomeAt s 0 = .never) :
    sendCommand op payload s = .hung (writing (op :: payload) s) := by
  simp [sendCommand, transaction, frameBytes, writing, txAll_never (s := beginTransaction (op :: payload) s) h,
    closeTransaction]

/-- The state of a write-gram transaction after its header. -/
def writingHeader (buf : List Byte) (xs ys : Byte) (s : State) : State :=
  tx (reverseAll (writeGramHeader xs ys)) (beginTransaction (writeGramHeader xs ys ++ buf) s)

theorem writeGram_shape {buf : List Byte} (h : buf.length ≠ gramBytes) (xs ys : Byte) (s : State) :
    writeGram buf xs ys s = .raised .protocol s := by simp [writeGram, h]

theorem writeGram_ok {buf : List Byte} {xs ys : Byte} {s : State} (hb : buf.length = gramBytes)
    (h0 : outcomeAt s 0 = .ok) (h1 : outcomeAt s 1 = .ok) :
    writeGram buf xs ys s = .goes (endTransaction (tx (reverseAll buf) (writingHeader buf xs ys s))) := by
  have e0 : outcomeAt (beginTransaction (writeGramHeader xs ys ++ buf) s) 0 = .ok := h0
  have e1 : outcomeAt (writingHeader buf xs ys s) 0 = .ok := by simpa [writingHeader] using h1
  simp [writeGram, hb, transaction, txAll_ok e0]
  rw [← writingHeader, txAll_ok e1]
  rfl

theorem writeGram_header_fail {buf : List Byte} {xs ys : Byte} {s : State} {k : Nat} {e : Token}
    (hb : buf.length = gramBytes) (h0 : outcomeAt s 0 = .fail k e) :
    writeGram buf xs ys s = .raised (.io e) (markDesync (endTransaction (writingHeader buf xs ys s))) := by
  have e0 : outcomeAt (beginTransaction (writeGramHeader xs ys ++ buf) s) 0 = .fail k e := h0
  simp [writeGram, hb, transaction, txAll_fail e0, closeTransaction, writingHeader]

theorem writeGram_payload_fail {buf : List Byte} {xs ys : Byte} {s : State} {k : Nat} {e : Token}
    (hb : buf.length = gramBytes) (h0 : outcomeAt s 0 = .ok) (h1 : outcomeAt s 1 = .fail k e) :
    writeGram buf xs ys s =
      .raised (.io e) (markDesync (endTransaction (tx (reverseAll buf) (writingHeader buf xs ys s)))) := by
  have e0 : outcomeAt (beginTransaction (writeGramHeader xs ys ++ buf) s) 0 = .ok := h0
  have e1 : outcomeAt (writingHeader buf xs ys s) 0 = .fail k e := by simpa [writingHeader] using h1
  simp [writeGram, hb, transaction, txAll_ok e0]
  rw [← writingHeader, txAll_fail e1]
  rfl

theorem writeGram_header_never {buf : List Byte} {xs ys : Byte} {s : State} (hb : buf.length = gramBytes)
    (h0 : outcomeAt s 0 = .never) : writeGram buf xs ys s = .hung (writingHeader buf xs ys s) := by
  have e0 : outcomeAt (beginTransaction (writeGramHeader xs ys ++ buf) s) 0 = .never := h0
  simp [writeGram, hb, transaction, txAll_never e0, closeTransaction, writingHeader]

theorem writeGram_payload_never {buf : List Byte} {xs ys : Byte} {s : State} (hb : buf.length = gramBytes)
    (h0 : outcomeAt s 0 = .ok) (h1 : outcomeAt s 1 = .never) :
    writeGram buf xs ys s = .hung (tx (reverseAll buf) (writingHeader buf xs ys s)) := by
  have e0 : outcomeAt (beginTransaction (writeGramHeader xs ys ++ buf) s) 0 = .ok := h0
  have e1 : outcomeAt (writingHeader buf xs ys s) 0 = .never := by simpa [writingHeader] using h1
  simp [writeGram, hb, transaction, txAll_ok e0]
  rw [← writingHeader, txAll_never e1]
  rfl

/-- Everything SEND_COMMAND can come to. -/
theorem sendCommand_cases (op : Byte) (payload : List Byte) (s : State) :
    (outcomeAt s 0 = .ok ∧ sendCommand op payload s = .goes (endTransaction (writing (op :: payload) s))) ∨
    (∃ k e, outcomeAt s 0 = .fail k e ∧
      sendCommand op payload s = .raised (.io e) (markDesync (endTransaction (writing (op :: payload) s)))) ∨
    (outcomeAt s 0 = .never ∧ sendCommand op payload s = .hung (writing (op :: payload) s)) := by
  cases h : outcomeAt s 0 with
  | ok => exact .inl ⟨rfl, sendCommand_ok h⟩
  | fail k e => exact .inr (.inl ⟨k, e, rfl, sendCommand_fail h⟩)
  | never => exact .inr (.inr ⟨rfl, sendCommand_never h⟩)

/-! ### What a transaction leaves unchanged -/

/-- The state an operation under way has reached. -/
def Progress.state : Progress → State
  | .goes s => s
  | .raised _ s => s
  | .hung s => s

/-- `s'` is reached from `s` by transactions alone: no register but DESYNC, no pin but those of the bus, no byte of
GRAM has changed, TRACE has only grown, and the transport's answers were taken in order. -/
structure Quiet (s s' : State) : Prop where
  lifecycle : s'.lifecycle = s.lifecycle
  seq : s'.seq = s.seq
  brightness : s'.brightness = s.brightness
  status : s'.status = s.status
  result : s'.result = s.result
  busy : s'.busy = s.busy
  interrupted : s'.interrupted = s.interrupted
  gram : s'.gram = s.gram
  rstN : s'.rstN = s.rstN
  filEn : s'.filEn = s.filEn
  config : s'.config = s.config
  inputs : s'.inputs = s.inputs
  desync : s.desync = true → s'.desync = true
  trace : s.trace <+: s'.trace
  answers : ∃ n, s'.transport = s.transport.drop n ∧ s'.draws = s.draws + n

theorem Quiet.refl (s : State) : Quiet s s := by
  constructor <;> first | rfl | exact id | exact List.prefix_rfl | exact ⟨0, rfl, rfl⟩

theorem Quiet.trans {a b c : State} (h : Quiet a b) (h' : Quiet b c) : Quiet a c where
  lifecycle := h'.lifecycle.trans h.lifecycle
  seq := h'.seq.trans h.seq
  brightness := h'.brightness.trans h.brightness
  status := h'.status.trans h.status
  result := h'.result.trans h.result
  busy := h'.busy.trans h.busy
  interrupted := h'.interrupted.trans h.interrupted
  gram := h'.gram.trans h.gram
  rstN := h'.rstN.trans h.rstN
  filEn := h'.filEn.trans h.filEn
  config := h'.config.trans h.config
  inputs := h'.inputs.trans h.inputs
  desync := h'.desync ∘ h.desync
  trace := h.trace.trans h'.trace
  answers := by
    obtain ⟨n, ht, hd⟩ := h.answers
    obtain ⟨m, ht', hd'⟩ := h'.answers
    exact ⟨n + m, by simp [ht', ht], by omega⟩

theorem beginTransaction_quiet (p : List Byte) (s : State) : Quiet s (beginTransaction p s) := by
  constructor <;> first | rfl | exact id | exact List.prefix_append .. | exact ⟨0, rfl, rfl⟩

theorem endTransaction_quiet (s : State) : Quiet s (endTransaction s) := by
  constructor <;> first | rfl | exact id | exact List.prefix_append .. | exact ⟨0, rfl, rfl⟩

theorem markDesync_quiet (s : State) : Quiet s (markDesync s) := by
  constructor <;> first | rfl | exact fun _ => rfl | exact List.prefix_rfl | exact ⟨0, rfl, rfl⟩

theorem tx_quiet (t : List Byte) (s : State) : Quiet s (tx t s) := by
  constructor <;> first | rfl | exact id | exact List.prefix_append .. | exact ⟨1, by simp, rfl⟩

theorem txAll_quiet (parts : List (List Byte)) (s : State) : Quiet s (txAll parts s).state := by
  induction parts generalizing s with
  | nil => exact Quiet.refl s
  | cons t rest ih =>
    cases h : outcomeAt s 0 with
    | ok => rw [txAll_ok h]; exact (tx_quiet t s).trans (ih _)
    | fail k e => rw [txAll_fail h]; exact tx_quiet t s
    | never => rw [txAll_never h]; exact tx_quiet t s

theorem closeTransaction_quiet (p : Progress) : Quiet p.state (closeTransaction p).state := by
  cases p with
  | goes s => exact endTransaction_quiet s
  | raised f s => exact (endTransaction_quiet s).trans (markDesync_quiet _)
  | hung s => exact Quiet.refl s

theorem transaction_quiet (parts : List (List Byte)) (s : State) : Quiet s (transaction parts s).state :=
  ((beginTransaction_quiet _ s).trans (txAll_quiet _ _)).trans (closeTransaction_quiet _)

theorem sendCommand_quiet (op : Byte) (payload : List Byte) (s : State) :
    Quiet s (sendCommand op payload s).state := transaction_quiet _ s

theorem writeGram_quiet (buf : List Byte) (xs ys : Byte) (s : State) : Quiet s (writeGram buf xs ys s).state := by
  unfold writeGram
  split
  · exact Quiet.refl s
  · exact transaction_quiet _ s

end Sys2Proof.Machine
end

