-- ==== Sys2Proof/Laws/Transformer.lean ====
section
/-! SUPPORT. Every buffer the core makes is a canonical memory of 4096 bytes, and where its copies lie. -/

namespace Sys2Proof.Machine

theorem gramAddr_lt {d x g : Nat} (hd : d < 2) (hx : x < canvasCols) (hg : g < canvasGroups) :
    gramAddr d x g < gramBytes := by
  simp only [gramAddr, dup, gramColBytes, gramBytes, canvasCols, canvasGroups] at *
  omega

/-- Two copies lie at one address only if they are the same copy of the same canvas byte. -/
theorem gramAddr_inj {d x g d' x' g' : Nat} (hd : d < 2) (hd' : d' < 2) (hg : g < canvasGroups)
    (hg' : g' < canvasGroups) : gramAddr d x g = gramAddr d' x' g' ↔ d = d' ∧ x = x' ∧ g = g' := by
  simp only [gramAddr, dup, gramColBytes, canvasGroups] at *
  omega

/-- A canonical memory of 4096 bytes. -/
def Sound (m : Memory) : Prop := Memory.wf m = true ∧ Memory.below gramBytes m = true

theorem zeroed_sound : Sound Memory.zeroed := ⟨Memory.zeroed_wf, Memory.zeroed_below _⟩

theorem write_sound {m : Memory} (h : Sound m) {a : Nat} (ha : a < gramBytes) (v : Byte) : Sound (m.write a v) :=
  ⟨Memory.write_wf h.1 a v, Memory.write_below h.2 ha v⟩

theorem foldl_sound {α : Type} {f : Memory → α → Memory} {l : List α} {m : Memory} (h : Sound m)
    (hf : ∀ m, ∀ x ∈ l, Sound m → Sound (f m x)) : Sound (l.foldl f m) := by
  induction l generalizing m with
  | nil => exact h
  | cons x l ih =>
    exact ih (hf m x (by simp) h) fun m y hy => hf m y (by simp [hy])

theorem copyByte_sound (c : Canvas) {x g : Nat} (hx : x < canvasCols) (hg : g < canvasGroups) {m : Memory}
    (h : Sound m) : Sound (copyByte c x m g) :=
  write_sound (write_sound h (gramAddr_lt (by decide) hx hg) _) (gramAddr_lt (by decide) hx hg) _

theorem copyColumn_sound (c : Canvas) {x : Nat} (hx : x < canvasCols) {m : Memory} (h : Sound m) :
    Sound (copyColumn c m x) :=
  foldl_sound h fun _ _ hg hm => copyByte_sound c hx (List.mem_range.1 hg) hm

theorem patchTrigger_sound {m : Memory} (h : Sound m) : Sound (patchTrigger m) := write_sound h (by decide) _

theorem transformed_sound (c : Canvas) : Sound (transformed c) :=
  patchTrigger_sound (foldl_sound zeroed_sound fun _ _ hx hm => copyColumn_sound c (List.mem_range.1 hx) hm)

theorem transformed_wf (c : Canvas) : Memory.wf (transformed c) = true := (transformed_sound c).1

theorem transformed_below (c : Canvas) : Memory.below 4096 (transformed c) = true := (transformed_sound c).2

/-- Rewriting GRAM and returning, for any buffer: cite this and never compare states with `transformed` in them by
`rfl`, which would evaluate the loops. -/
theorem returnOk_setGram (m : Memory) (s : State) :
    returnOk (setGram m s) = { s with gram := m, status := .ok, busy := false } := rfl

theorem exec_transform (c : Canvas) (s : State) :
    exec (.transform c) s = .next { s with gram := transformed c, status := .ok, busy := false } := by
  have h : exec (.transform c) s = .next (returnOk (setGram (transformed c) s)) := by simp only [exec, execTransform]
  rw [h, returnOk_setGram]

theorem clearFrame_sound : Sound clearFrame := patchTrigger_sound zeroed_sound

@[simp] theorem gramStream_length (m : Memory) : (gramStream m).length = gramBytes := by simp [gramStream]

end Sys2Proof.Machine
end

