-- ==== Sys2Proof/Laws/Sequencer.lean ====
section
/-! SUPPORT. How a property of states passes through an operation under way, and the writes SHOW and INIT make of
the core's own GRAM. -/

namespace Sys2Proof.Machine

/-- The state of a progress has the property. -/
def Progress.Holds (P : State → Prop) (p : Progress) : Prop := P p.state

theorem Progress.holds_andThen {P : State → Prop} {p : Progress} {f : State → Progress} (h : p.Holds P)
    (hf : ∀ s, P s → (f s).Holds P) : (p.andThen f).Holds P := by
  cases p with
  | goes s => exact hf s h
  | raised e s => exact h
  | hung s => exact h

/-- What an operation that answers a next state has done: it is the settled state of its progress. -/
theorem settle_cases (p : Progress) :
    (∃ s, p = .goes s ∧ settle p = returnOk s) ∨ (∃ f s, p = .raised f s ∧ settle p = takeFailure f s) ∨
      (∃ s, p = .hung s ∧ settle p = hang s) := by
  cases p with
  | goes s => exact .inl ⟨s, rfl, rfl⟩
  | raised f s => exact .inr (.inl ⟨f, s, rfl, rfl⟩)
  | hung s => exact .inr (.inr ⟨s, rfl, rfl⟩)

/-- INIT answers a next state exactly outside Standby. -/
theorem execInit_cases (s : State) :
    (s.lifecycle = .standby ∧ execInit s = .refused (.initInStandby (refuse s))) ∨
      (s.lifecycle ≠ .standby ∧ execInit s = .next (settle (initSequence s))) := by
  by_cases h : s.lifecycle = .standby
  · exact .inl ⟨h, by simp [execInit, h]⟩
  · exact .inr ⟨h, by simp [execInit, h]⟩

/-- A write of the core's own GRAM is never a shape error. -/
theorem writeOwnGram_eq (s : State) :
    writeOwnGram s = transaction [writeGramHeader startCoord startCoord, gramStream s.gram] s := by
  simp [writeOwnGram, writeGram]

theorem writeOwnGram_quiet (s : State) : Quiet s (writeOwnGram s).state := writeGram_quiet ..

theorem sendBrightness_quiet (s : State) : Quiet s (sendBrightness s).state := sendCommand_quiet ..

end Sys2Proof.Machine
end

