-- ==== Sys2Proof/Tests/Slice0.lean ====
section
/-! SUPPORT. The model's own tests. Expected values are the spec's own tables and vectors (the table of
40_bitorder_codec.md section 4, the vectors T-* of 95_test_vectors.md, the selector codes and frame formats of
30_encoding.md) or worked out from its rules by hand. Then, for every statement of Obligations.lean with hypotheses, a
concrete case that meets them. -/

namespace Sys2Proof.Tests

open Sys2Proof.Machine Sys2Proof.Claims

/-! ### Small states -/

/-- The machine after reset, whose transport will give these answers. -/
def answering (answers : List TxOutcome) : State := { State.reset with transport := answers }

/-- The same in another lifecycle state. -/
def standing (l : Lifecycle) (answers : List TxOutcome) : State := { answering answers with lifecycle := l }

/-- The same, Active with the filament on. -/
def running (answers : List TxOutcome) : State := { standing .active answers with filEn := .high }

/-- An idle machine to which one input is presented. -/
def offered (i : Input) (answers : List TxOutcome) : State := { answering answers with inputs := [i] }

/-- The next state of an outcome, if it is one. -/
def nextOf : Host.Outcome State Fault Refusal → Option State
  | .next s => some s
  | .fault _ => none
  | .refused _ => none

/-- What an operation appends to the trace of a machine with an empty one. -/
def traceOf (o : Host.Outcome State Fault Refusal) : Option (List Event) := (nextOf o).map State.trace

def e7 : Token := ⟨7⟩

def eightOks : List TxOutcome := List.replicate 8 .ok

/-! ### Well-formedness refuses -/

/-- Cells out of order. -/
theorem test_wf_canvas_order : (Instr.transform [(9, 1), (5, 1)]).WellFormed = false := by decide

/-- A listed cell that holds what an unlisted one reads as. -/
theorem test_wf_canvas_zero_cell : (Instr.showFrame [(5, 0)]).WellFormed = false := by decide

/-- An address behind the 1536 bytes of the canvas, and the last one in it. -/
theorem test_wf_canvas_bound :
    (Instr.showFrame [(1536, 1)]).WellFormed = false ∧ (Instr.showFrame [(1535, 1)]).WellFormed = true := by decide

/-- A brightness that does not fit its port, and the largest that does. -/
theorem test_wf_brightness :
    (Instr.setBrightness 65536).WellFormed = false ∧ (Instr.setBrightness 65535).WellFormed = true := by decide

/-! ### Decoding: one word for every row -/

/-- The selector codes of 30_encoding.md R100, as table words. -/
theorem test_decode_selectors :
    (List.range 9).map (decodeTableWord 8) =
      [some (.reverse 0), some (.reverseAll []), some (.sendCommand 0 []), some (.writeGram [] 0 0),
        some (.transform []), some (.showFrame []), some (.setBrightness 0), some .init, some .deinit] := by decide

theorem test_decode_unknown_selectors :
    ([9, 10, 11, 12, 13, 14, 15].map (decodeTableWord 8)).all Option.isNone = true := by decide

theorem test_decode_cmdReset : decode (.frame Command.reset.op []) = .ok .cmdReset := decode_frame .reset []
theorem test_decode_cmdFrameSync : decode (.frame Command.frameSync.op []) = .ok .cmdFrameSync :=
  decode_frame .frameSync []

/-- Low byte first (30_encoding.md R86). -/
theorem test_decode_cmdBrightness :
    decode (.frame Command.brightness.op [0b00000000, 0b00000001]) = .ok (.cmdBrightness 0x0100) :=
  decode_frame .brightness [0x00, 0x01]
theorem test_decode_cmdDisplayMode : decode (.frame Command.displayMode.op [0b00000101]) = .ok (.cmdDisplayMode 5) :=
  decode_frame .displayMode [5]
theorem test_decode_cmdDisplayOffset :
    decode (.frame Command.displayOffset.op [0b00000010, 0b00111000]) = .ok (.cmdDisplayOffset 0x02 0x38) :=
  decode_frame .displayOffset [0x02, 0x38]
theorem test_decode_cmdVfdMode :
    decode (.frame Command.vfdMode.op [1, 2, 3, 4, 5, 6, 7]) = .ok (.cmdVfdMode 1 2 3 4 5 6 7) :=
  decode_frame .vfdMode [1, 2, 3, 4, 5, 6, 7]
theorem test_decode_cmdOsc : decode (.frame Command.osc.op [0b10000001]) = .ok (.cmdOsc 0x81) :=
  decode_frame .osc [0x81]
theorem test_decode_cmdEnterStandby : decode (.frame Command.enterStandby.op []) = .ok .cmdEnterStandby :=
  decode_frame .enterStandby []
theorem test_decode_cmdExitStandby : decode (.frame Command.exitStandby.op []) = .ok .cmdExitStandby :=
  decode_frame .exitStandby []

/-- x_start before y_start before the buffer (30_encoding.md R81, R88). -/
theorem test_decode_cmdWriteGram :
    decode (.frame Command.writeGram.op [0b00000001, 0b00000010, 0xFF]) = .ok (.cmdWriteGram [0xFF] 0x01 0x02) :=
  decode_frame .writeGram [0x01, 0x02, 0xFF]

/-- Bytes of a table word: the first byte is bits 7 to 0. -/
theorem test_byteOfWord : (List.range 3).map (byteOfWord 0x123456) = [0x56, 0x34, 0x12] := by decide

/-- A frame with a payload of another length than the table's is sent as it is (30_encoding.md R91). -/
theorem test_decode_other_shape :
    decode (.frame Command.displayMode.op [1, 2]) = .ok (.sendCommand Command.displayMode.op [1, 2]) :=
  decode_frame .displayMode [1, 2]

/-! ### Constants (00_scope.md R9) -/

theorem test_constants : gramBytes = gramCols * gramColBytes ∧ gramCols = dup * canvasCols ∧
    canvasBytes = canvasCols * canvasGroups ∧ canvasGroups = gramVisibleBytes := by decide

/-! ### BitOrderCodec -/

/-- The listing of 40_bitorder_codec.md section 4. -/
def romTable : List Byte :=
  [0x00, 0x80, 0x40, 0xC0, 0x20, 0xA0, 0x60, 0xE0, 0x10, 0x90, 0x50, 0xD0, 0x30, 0xB0, 0x70, 0xF0]
    ++ [0x08, 0x88, 0x48, 0xC8, 0x28, 0xA8, 0x68, 0xE8, 0x18, 0x98, 0x58, 0xD8, 0x38, 0xB8, 0x78, 0xF8]
    ++ [0x04, 0x84, 0x44, 0xC4, 0x24, 0xA4, 0x64, 0xE4, 0x14, 0x94, 0x54, 0xD4, 0x34, 0xB4, 0x74, 0xF4]
    ++ [0x0C, 0x8C, 0x4C, 0xCC, 0x2C, 0xAC, 0x6C, 0xEC, 0x1C, 0x9C, 0x5C, 0xDC, 0x3C, 0xBC, 0x7C, 0xFC]
    ++ [0x02, 0x82, 0x42, 0xC2, 0x22, 0xA2, 0x62, 0xE2, 0x12, 0x92, 0x52, 0xD2, 0x32, 0xB2, 0x72, 0xF2]
    ++ [0x0A, 0x8A, 0x4A, 0xCA, 0x2A, 0xAA, 0x6A, 0xEA, 0x1A, 0x9A, 0x5A, 0xDA, 0x3A, 0xBA, 0x7A, 0xFA]
    ++ [0x06, 0x86, 0x46, 0xC6, 0x26, 0xA6, 0x66, 0xE6, 0x16, 0x96, 0x56, 0xD6, 0x36, 0xB6, 0x76, 0xF6]
    ++ [0x0E, 0x8E, 0x4E, 0xCE, 0x2E, 0xAE, 0x6E, 0xEE, 0x1E, 0x9E, 0x5E, 0xDE, 0x3E, 0xBE, 0x7E, 0xFE]
    ++ [0x01, 0x81, 0x41, 0xC1, 0x21, 0xA1, 0x61, 0xE1, 0x11, 0x91, 0x51, 0xD1, 0x31, 0xB1, 0x71, 0xF1]
    ++ [0x09, 0x89, 0x49, 0xC9, 0x29, 0xA9, 0x69, 0xE9, 0x19, 0x99, 0x59, 0xD9, 0x39, 0xB9, 0x79, 0xF9]
    ++ [0x05, 0x85, 0x45, 0xC5, 0x25, 0xA5, 0x65, 0xE5, 0x15, 0x95, 0x55, 0xD5, 0x35, 0xB5, 0x75, 0xF5]
    ++ [0x0D, 0x8D, 0x4D, 0xCD, 0x2D, 0xAD, 0x6D, 0xED, 0x1D, 0x9D, 0x5D, 0xDD, 0x3D, 0xBD, 0x7D, 0xFD]
    ++ [0x03, 0x83, 0x43, 0xC3, 0x23, 0xA3, 0x63, 0xE3, 0x13, 0x93, 0x53, 0xD3, 0x33, 0xB3, 0x73, 0xF3]
    ++ [0x0B, 0x8B, 0x4B, 0xCB, 0x2B, 0xAB, 0x6B, 0xEB, 0x1B, 0x9B, 0x5B, 0xDB, 0x3B, 0xBB, 0x7B, 0xFB]
    ++ [0x07, 0x87, 0x47, 0xC7, 0x27, 0xA7, 0x67, 0xE7, 0x17, 0x97, 0x57, 0xD7, 0x37, 0xB7, 0x77, 0xF7]
    ++ [0x0F, 0x8F, 0x4F, 0xCF, 0x2F, 0xAF, 0x6F, 0xEF, 0x1F, 0x9F, 0x5F, 0xDF, 0x3F, 0xBF, 0x7F, 0xFF]

theorem test_rom_table : (List.range 256).map (fun i => rom (BitVec.ofNat 8 i)) = romTable := by decide +kernel

/-- T-R13: not a nibble swap. -/
theorem test_reverse : (nextOf (exec (.reverse 0x12) (answering []))).map State.result = some [0x48] := by decide

/-- T-R23: order kept; T-R21: the empty sequence. -/
theorem test_reverse_all :
    (nextOf (exec (.reverseAll [0x01, 0x02, 0x0F]) (answering []))).map State.result = some [0x80, 0x40, 0xF0] ∧
      (nextOf (exec (.reverseAll []) (answering []))).map State.result = some [] := by decide

/-! ### ProtocolEngine -/

/-- T-P1. -/
theorem test_send_command :
    traceOf (exec (.sendCommand 0x0F [0x01]) (answering [.ok])) =
      some [.csN .low, .tx 0xF0, .tx 0x80, .csN .high] := by decide

/-- T-P5. -/
theorem test_send_command_fails :
    (nextOf (exec (.sendCommand 0x0F [0x01]) (answering [.fail 1 e7]))).map (fun s => (s.trace, s.status, s.desync)) =
      some ([.csN .low, .tx 0xF0, .csN .high], .ioFailure e7, true) := by decide

/-- T-F9: the operation does not return. -/
theorem test_send_command_hangs :
    (nextOf (exec (.sendCommand 0x01 []) (answering [.never]))).map (fun s => (s.trace, s.csN, s.busy)) =
      some ([.csN .low], .low, true) := by decide

/-- T-P10, T-P11, T-F8. -/
theorem test_write_gram_shape :
    [4095, 4097].map (fun n => (nextOf (exec (.writeGram (List.replicate n 0) 0 0) (answering [.fail 0 e7]))).map
      fun s => (s.trace, s.status)) = [some ([], .protocolError), some ([], .protocolError)] := by decide +kernel

set_option maxRecDepth 20000 in
/-- T-P13: the payload write is not attempted. -/
theorem test_write_gram_header_fails :
    (nextOf (exec (.writeGram (0xFF :: List.replicate 4095 0) 0 0) (answering [.fail 2 e7]))).map
      (fun s => (s.trace.length, s.trace[2]?, s.trace[3]?, s.draws)) =
      some (4, some (.tx 0x00), some (.csN .high), 1) := by decide +kernel

/-! ### The wire commands: T-C1 to T-C11 -/

theorem test_cmdReset : traceOf (exec .cmdReset (answering [.ok])) =
    some [.csN .low, .tx (rom Command.reset.op), .csN .high] := by rfl
theorem test_cmdFrameSync : traceOf (exec .cmdFrameSync (answering [.ok])) =
    some [.csN .low, .tx (rom Command.frameSync.op), .csN .high] := by rfl
theorem test_cmdBrightness : traceOf (exec (.cmdBrightness 0x0100) (answering [.ok])) =
    some [.csN .low, .tx (rom Command.brightness.op), .tx 0x00, .tx 0x80, .csN .high] := by rfl
theorem test_cmdDisplayMode : traceOf (exec (.cmdDisplayMode 0x00) (answering [.ok])) =
    some [.csN .low, .tx (rom Command.displayMode.op), .tx 0x00, .csN .high] := by rfl
theorem test_cmdDisplayOffset : traceOf (exec (.cmdDisplayOffset 0x00 0x38) (answering [.ok])) =
    some [.csN .low, .tx (rom Command.displayOffset.op), .tx 0x00, .tx 0x1C, .csN .high] := by rfl
theorem test_cmdVfdMode : traceOf (exec (.cmdVfdMode 1 2 3 4 5 6 7) (answering [.ok])) =
    some [.csN .low, .tx (rom Command.vfdMode.op), .tx 0x80, .tx 0x40, .tx 0xC0, .tx 0x20, .tx 0xA0, .tx 0x60, .tx 0xE0,
      .csN .high] := by rfl
theorem test_cmdOsc : traceOf (exec (.cmdOsc 0x34) (answering [.ok])) =
    some [.csN .low, .tx (rom Command.osc.op), .tx 0x2C, .csN .high] := by rfl
theorem test_cmdEnterStandby :
    (nextOf (exec .cmdEnterStandby (running [.ok]))).map (fun s => (s.trace, s.lifecycle)) =
      some ([.csN .low, .tx (rom Command.enterStandby.op), .csN .high], .active) := by rfl
theorem test_cmdExitStandby :
    (nextOf (exec .cmdExitStandby (standing .standby [.ok]))).map (fun s => (s.trace, s.lifecycle)) =
      some ([.csN .low, .tx (rom Command.exitStandby.op), .csN .high], .standby) := by rfl
set_option maxRecDepth 20000 in
theorem test_cmdWriteGram :
    (traceOf (exec (.cmdWriteGram (0xFF :: List.replicate 4095 0) 0x01 0x02) (answering [.ok, .ok]))).map
      (fun t => (t.length, t[0]?, (t.drop 2).take 3)) =
      some (4101, some (.csN .low), [.tx 0x80, .tx 0x40, .tx 0xFF]) := by decide +kernel

/-! ### GRAMTransformer -/

set_option maxRecDepth 20000 in
/-- T-G4: the two copies of (0, 0) differ. -/
theorem test_transform_trigger :
    (nextOf (exec (.transform [(0, 0x5A)]) (answering []))).map State.gram = some [(0, 0xFF), (8, 0x5A)] := by
  decide +kernel

set_option maxRecDepth 20000 in
/-- T-G6: the bottom-right pixel. -/
theorem test_transform_last :
    (nextOf (exec (.transform [(5 * 256 + 255, 0x80)]) (answering []))).map State.gram =
      some [(0, 0xFF), (4085, 0x80), (4093, 0x80)] := by decide +kernel

/-! ### Host operations -/

set_option maxRecDepth 20000 in
/-- T-H2: payload byte `a` is event `4 + a`. -/
theorem test_show :
    (traceOf (exec (.showFrame [(5, 0x08)]) (answering [.ok, .ok]))).map
      (fun t => (t.length, t[4]?, t[84]?, t[92]?)) =
      some (4101, some (.tx 0xFF), some (.tx 0x10), some (.tx 0x10)) := by decide +kernel

set_option maxRecDepth 20000 in
/-- T-F7. -/
theorem test_show_fails :
    (nextOf (exec (.showFrame []) (running [.fail 1 e7]))).map
      (fun s => (s.trace.length, s.trace[2]?, s.status, s.lifecycle)) =
      some (3, some (.csN .high), .ioFailure e7, .active) := by decide +kernel

/-- T-H4. -/
theorem test_set_brightness :
    (nextOf (exec (.setBrightness 0x12345) (answering [.ok]))).map (fun s => (s.trace, s.brightness)) =
      some ([.csN .low, .tx (rom Command.brightness.op), .tx 0xA2, .tx 0xC4, .csN .high], 0x2345) := by rfl

/-- T-H7: the store survives. -/
theorem test_set_brightness_fails :
    (nextOf (exec (.setBrightness 0x0080) (answering [.fail 1 e7]))).map (fun s => (s.brightness, s.status)) =
      some (0x0080, .ioFailure e7) := by rfl

/-! ### InitSequencer -/

set_option maxRecDepth 20000 in
/-- T-I1: the length of the trace and events 0 to 4, 7, 4124, 4128 and 4138. -/
theorem test_init :
    (nextOf (exec .init (answering eightOks))).map
      (fun s => (s.trace.length, s.lifecycle, [0, 1, 2, 3, 4, 7, 4124, 4128, 4138].map fun k => s.trace[k]?)) =
      some (4139, .active, [some (.rstN .low), some (.wait 10), some (.rstN .high), some (.wait 50), some (.csN .low),
        some (.wait 50), some (.wait 20), some (.tx 0x1C), some (.filEn .high)]) := by decide +kernel

/-- T-F1: the wait of T2 is skipped. -/
theorem test_init_fails :
    (nextOf (exec .init (answering [.fail 0 e7]))).map (fun s => (s.trace, s.lifecycle, s.desync)) =
      some ([.rstN .low, .wait 10, .rstN .high, .wait 50, .csN .low, .csN .high], .reset, true) := by decide

/-- T-I3. -/
theorem test_deinit_unpowered :
    (nextOf (exec .deinit (answering []))).map (fun s => (s.trace, s.lifecycle, s.filEn, s.status)) =
      some ([], .unpowered, .low, .ok) := by decide

/-- T-I7. -/
theorem test_deinit_fails :
    (nextOf (exec .deinit (running [.fail 0 e7]))).map (fun s => (s.trace, s.lifecycle, s.filEn)) =
      some ([.filEn .low, .csN .low, .csN .high], .active, .low) := by decide

/-! ### Requests -/

/-- A core that hangs in CMD_RESET, and what the outside presents next. -/
def hanging (inputs : List Input) : State :=
  { answering [] with busy := true, csN := .low, operands := [Command.reset.op], inputs := inputs }

/-- A busy core does not accept a request; block reset behind it is reached (log 24). -/
theorem test_busy_core_takes_nothing :
    (nextOf (step (hanging [.request (encode .deinit), .blockReset]))).map
      (fun s => (s.trace, s.busy, s.csN, s.inputs)) = some ([], true, .low, [.blockReset]) := by decide

/-- Block reset in a hang: the pins and DESYNC are back, the controller is out of step (70_reset_and_hazards.md R282). -/
theorem test_block_reset_in_a_hang :
    (nextOf (step (hanging [.blockReset]))).map (fun s => (s.busy, s.csN, s.desync, s.interrupted)) =
      some (false, .high, false, true) := by decide

/-- T1 of the next INIT ends that, even if the INIT fails behind it. -/
theorem test_init_mends :
    (nextOf (exec .init { answering [.fail 0 e7] with interrupted := true })).map (fun s => (s.desync, s.interrupted)) =
      some (true, false) := by decide

/-- The two readable codes beside STATUS's token (10_state.md R21, R24). -/
theorem test_codes :
    [Lifecycle.unpowered, .reset, .configuring, .ready, .active, .standby].map (fun l => (lifecycleCode l).toNat) =
      [0, 1, 2, 3, 4, 5] ∧
    [Status.ok, .ioFailure e7, .protocolError, .refused].map (fun s => ((statusCode s).toNat, statusToken s)) =
      [(0, none), (1, some e7), (2, none), (3, none)] := by decide

/-! ### Witnesses: each statement's hypotheses are met together -/

/-- Two writes, both ok. -/
def twoOks : List TxOutcome := [.ok, .ok]

/-- A buffer of 4096 bytes. -/
def fullBuffer : List Byte := List.replicate 4096 0xFF

theorem fullBuffer_length : fullBuffer.length = 4096 := List.length_replicate

/-- The largest shift and the last bit of the low nibble. -/
theorem witness_ReverseLaws : (7 : Nat) ≤ 7 ∧ (3 : Nat) < 4 ∧ rom (0x03 <<< 7) = rom 0x03 >>> 7 := by decide

theorem witness_ReverseAllKeepsLengthAndOrder :
    ([0x01, 0x02, 0x0F] : List Byte)[2]? = some 0x0F ∧ (7 : Nat) < 8 := by decide

/-- Each of the ten instructions that are one SEND_COMMAND has a frame. -/
theorem witness_FramesAreSent :
    (([.sendCommand 0x0F [], .cmdReset, .cmdFrameSync, .cmdBrightness 0, .cmdDisplayMode 0, .cmdDisplayOffset 0 0,
      .cmdVfdMode 0 0 0 0 0 0 0, .cmdOsc 0, .cmdEnterStandby, .cmdExitStandby] : List Instr).all fun i =>
        (frameOf i).isSome) = true ∧
      (answering [.ok]).csN = .high ∧ outcomeAt (answering [.ok]) 0 = .ok := by decide

/-- Cut before the first byte and behind the last. -/
theorem witness_FailedFrameIsCut :
    frameOf (.sendCommand 0x0F [0x01]) = some [0x0F, 0x01] ∧ (answering [.fail 0 e7]).csN = .high ∧
      outcomeAt (answering [.fail 0 e7]) 0 = .fail 0 e7 ∧ outcomeAt (answering [.fail 2 e7]) 0 = .fail 2 e7 ∧
      2 ≤ ([0x0F, 0x01] : List Byte).length := by decide

theorem witness_NeverReturningWriteHangs :
    frameOf (.sendCommand 0x0F [0x01]) = some [0x0F, 0x01] ∧ (answering [.never]).csN = .high ∧
      outcomeAt (answering [.never]) 0 = .never := by decide

/-- Both writes of a write-gram are ok; the clauses of one frame are met by the same state, and the clause of DEINIT by
an Active one. -/
theorem witness_ReceiverGetsTheNaturalFrame :
    bufferOf (.cmdWriteGram fullBuffer 1 2) = some (fullBuffer, 1, 2) ∧ fullBuffer.length = 4096 ∧
      frameOf .cmdReset = some [Command.reset.op] ∧ (answering twoOks).csN = .high ∧
      outcomeAt (answering twoOks) 0 = .ok ∧ outcomeAt (answering twoOks) 1 = .ok ∧
      (running [.ok]).lifecycle = .active ∧ (running [.ok]).csN = .high ∧ outcomeAt (running [.ok]) 0 = .ok :=
  ⟨rfl, fullBuffer_length, rfl, rfl, rfl, rfl, rfl, rfl, rfl⟩

theorem witness_WriteGramSendsHeaderAndBuffer :
    bufferOf (.writeGram fullBuffer 1 2) = some (fullBuffer, 1, 2) ∧ fullBuffer.length = 4096 ∧
      (answering twoOks).csN = .high ∧ outcomeAt (answering twoOks) 0 = .ok ∧ outcomeAt (answering twoOks) 1 = .ok :=
  ⟨rfl, fullBuffer_length, rfl, rfl, rfl⟩

/-- Both clauses at their last byte. -/
theorem witness_WriteGramFailureCutsTheFrame :
    bufferOf (.writeGram fullBuffer 1 2) = some (fullBuffer, 1, 2) ∧ fullBuffer.length = 4096 ∧
      outcomeAt (answering [.fail 3 e7]) 0 = .fail 3 e7 ∧ outcomeAt (answering [.ok, .fail 4096 e7]) 0 = .ok ∧
      outcomeAt (answering [.ok, .fail 4096 e7]) 1 = .fail 4096 e7 ∧ (answering [.ok, .fail 4096 e7]).csN = .high :=
  ⟨rfl, fullBuffer_length, rfl, rfl, rfl, rfl⟩

theorem witness_WriteGramCanHang :
    bufferOf (.writeGram fullBuffer 1 2) = some (fullBuffer, 1, 2) ∧ fullBuffer.length = 4096 ∧
      outcomeAt (answering [.never]) 0 = .never ∧ outcomeAt (answering [.ok, .never]) 0 = .ok ∧
      outcomeAt (answering [.ok, .never]) 1 = .never ∧ (answering [.never]).csN = .high :=
  ⟨rfl, fullBuffer_length, rfl, rfl, rfl, rfl⟩

/-- One byte too few and one too many, and a run that returns the error. -/
theorem witness_ProtocolErrorIsTheShapeCheck :
    bufferOf (.writeGram (List.replicate 4095 0) 1 2) = some (List.replicate 4095 0, 1, 2) ∧
      (List.replicate 4095 (0 : Byte)).length ≠ 4096 ∧ (List.replicate 4097 (0 : Byte)).length ≠ 4096 ∧
      (answering []).seq = .idle ∧ (answering []).busy = false ∧
      (nextOf (exec (.writeGram [] 1 2) (answering []))).map (fun t => (t.busy, t.status)) =
        some (false, .protocolError) :=
  ⟨rfl, by rw [List.length_replicate]; decide, by rw [List.length_replicate]; decide, rfl, rfl, rfl⟩

/-- The first column and the last; the last visible byte. -/
theorem witness_TransformZeroesTheInvisibleBytes : (0 : Nat) < 512 ∧ (511 : Nat) < 512 := by decide

theorem witness_TransformForcesTheTrigger : (0 : Nat) < 4095 ∧ (4095 : Nat) < 4096 := by decide

theorem witness_TransformDuplicatesEveryByte :
    (255 : Nat) < 256 ∧ (5 : Nat) < 6 ∧ ((255, 5) : Nat × Nat) ≠ (0, 0) ∧ ((0, 1) : Nat × Nat) ≠ (0, 0) := by decide

/-- Two lists that stand for one canvas. -/
theorem witness_TransformDependsOnTheCanvasAlone :
    ∀ g x, g < 6 → x < 256 → canvasRead [] g x = canvasRead [(1536, 1)] g x := by
  intro g x hg hx
  have hne : ¬(g * canvasCols + x = 1536) := by
    simp only [canvasCols]
    omega
  simp [canvasRead, Memory.read, hne]

/-- The bottom-right pixel, and the last pixel of the byte whose first copy the patch overwrites. -/
theorem witness_PixelLandsInTwoColumns :
    ((255 : Nat) < 256 ∧ (47 : Nat) < 48 ∧ (1 : Nat) < 2 ∧ ¬(255 = 0 ∧ 47 < 8 ∧ 1 = 0)) ∧
      ((0 : Nat) < 256 ∧ (7 : Nat) < 48 ∧ ¬(0 = 0 ∧ 7 < 8 ∧ 1 = 0)) := by decide

theorem witness_AllZeroCanvasGivesTheClearBuffer :
    (∀ g x, g < 6 → x < 256 → canvasRead [] g x = 0x00) ∧ (answering eightOks).lifecycle ≠ .standby ∧
      (answering eightOks).csN = .high ∧ (answering eightOks).rstN = .high ∧
      ∀ n, n < 8 → outcomeAt (answering eightOks) n = .ok := by
  refine ⟨fun g x _ _ => rfl, ?_⟩
  decide

theorem witness_SinglePixelScenario :
    canvasRead [(5, 0x08)] 0 5 = 0x08 ∧
      ∀ g x, g < 6 → x < 256 → (g, x) ≠ (0, 5) → canvasRead [(5, 0x08)] g x = 0x00 := by
  refine ⟨by decide, fun g x _ _ h => ?_⟩
  have hne : ¬(g = 0 ∧ x = 5) := fun e => h (by simp [e])
  have ha : ¬(g * canvasCols + x = 5) := by
    simp only [canvasCols]
    omega
  simp [canvasRead, Memory.read, ha, unlistedByte]

theorem witness_ShowSendsTheTransformedCanvas :
    (answering twoOks).csN = .high ∧ outcomeAt (answering twoOks) 0 = .ok ∧ outcomeAt (answering twoOks) 1 = .ok := by
  decide

/-- Both clauses at their last byte. -/
theorem witness_ShowFailureCutsTheFrame :
    (answering [.fail 3 e7]).csN = .high ∧ outcomeAt (answering [.fail 3 e7]) 0 = .fail 3 e7 ∧
      outcomeAt (answering [.ok, .fail 4096 e7]) 0 = .ok ∧
      outcomeAt (answering [.ok, .fail 4096 e7]) 1 = .fail 4096 e7 := by decide

theorem witness_SetBrightnessStoresAndSends :
    (answering [.ok]).csN = .high ∧ outcomeAt (answering [.ok]) 0 = .ok := by decide

theorem witness_SetBrightnessSurvivesAFailedSend :
    (answering [.fail 3 e7]).csN = .high ∧ outcomeAt (answering [.fail 3 e7]) 0 = .fail 3 e7 ∧ 3 ≤ 3 := by decide

/-- Outside Standby, with eight writes that return. -/
theorem witness_InitReachesActive :
    (answering eightOks).lifecycle ≠ .standby ∧ (answering eightOks).csN = .high ∧ (answering eightOks).rstN = .high ∧
      ∀ n, n < 8 → outcomeAt (answering eightOks) n = .ok := by decide

theorem witness_InitDeliversSevenFrames :
    (running eightOks).lifecycle ≠ .standby ∧ (running eightOks).csN = .high ∧ (running eightOks).rstN = .high ∧
      ∀ n, n < 8 → outcomeAt (running eightOks) n = .ok := by decide

theorem witness_InitBeginsWithTheHardwareReset :
    (answering []).lifecycle ≠ .standby ∧ (answering []).rstN = .high := by decide

/-- The first write fails, and the last. -/
theorem witness_FailedInitRests :
    (answering [.fail 0 e7]).lifecycle ≠ .standby ∧ (answering [.fail 0 e7]).csN = .high ∧
      (answering [.fail 0 e7]).rstN = .high ∧ outcomeAt (answering [.fail 0 e7]) 0 = .fail 0 e7 ∧
      (∀ n, n < 7 → outcomeAt (answering (List.replicate 7 .ok ++ [.fail 2 e7])) n = .ok) ∧
      outcomeAt (answering (List.replicate 7 .ok ++ [.fail 2 e7])) 7 = .fail 2 e7 := by decide

theorem witness_HangingInitStandsAtItsStep :
    (answering [.never]).lifecycle ≠ .standby ∧ (answering [.never]).csN = .high ∧
      (answering [.never]).rstN = .high ∧ outcomeAt (answering [.never]) 0 = .never ∧
      (∀ n, n < 7 → outcomeAt (answering (List.replicate 7 .ok ++ [.never])) n = .ok) ∧
      outcomeAt (answering (List.replicate 7 .ok ++ [.never])) 7 = .never := by decide

theorem witness_InitInStandbyIsRefused : (standing .standby []).lifecycle = .standby := by decide

theorem witness_ReinitialisationIsNotAnError :
    (answering (List.replicate 16 .ok)).lifecycle ≠ .standby ∧ (answering (List.replicate 16 .ok)).csN = .high ∧
      (answering (List.replicate 16 .ok)).rstN = .high ∧
      ∀ n, n < 16 → outcomeAt (answering (List.replicate 16 .ok)) n = .ok := by decide

theorem witness_DeinitFromActiveEntersStandby :
    (running [.ok]).lifecycle = .active ∧ (running [.ok]).csN = .high ∧ outcomeAt (running [.ok]) 0 = .ok := by decide

theorem witness_DeinitElsewhereOnlyTurnsTheFilamentOff : (standing .configuring []).lifecycle ≠ .active := by decide

/-- Before the one byte and behind it. -/
theorem witness_FailedDeinitStaysActive :
    (running [.fail 0 e7]).lifecycle = .active ∧ (running [.fail 0 e7]).csN = .high ∧
      outcomeAt (running [.fail 0 e7]) 0 = .fail 0 e7 ∧ outcomeAt (running [.fail 1 e7]) 0 = .fail 1 e7 ∧ 1 ≤ 1 := by
  decide

/-- The clause of INIT and the clause of DEINIT, and a buffer of the right length. -/
theorem witness_WhatIsNotAFailure :
    ((running eightOks).csN = .high ∧ (running eightOks).rstN = .high ∧
      ∀ n, n < 8 → outcomeAt (running eightOks) n = .ok) ∧
      (running eightOks).lifecycle = .active ∧ (answering eightOks).lifecycle ≠ .active ∧
      fullBuffer.length = 4096 := ⟨by decide, by decide, by decide, fullBuffer_length⟩

/-- An instruction that makes no write, and one whose write returns, fails or never returns. -/
theorem witness_TheFailingTokenIsReturnedUnchanged :
    ((nextOf (exec (.reverse 1) (answering []))).map fun t => (t.draws, t.status)) = some (0, .ok) ∧
      ((nextOf (exec .cmdReset (answering [.ok]))).map fun t => (t.draws, t.status)) = some (1, .ok) ∧
      ((nextOf (exec .cmdReset (answering [.fail 0 e7]))).map fun t => (t.draws, t.status)) =
        some (1, .ioFailure e7) ∧
      ((nextOf (exec .cmdReset (answering [.never]))).map fun t => (t.draws, t.busy)) = some (1, true) := by decide

theorem witness_FailureEntry :
    ((nextOf (exec .cmdReset (answering [.fail 0 e7]))).map fun t => (t.busy, t.status)) =
      some (false, .ioFailure e7) := by decide

/-- The relations hold of an idle machine with a request, and of one that hangs; both take a step. -/
theorem witness_StepKeepsAtRest :
    AtRest (offered (.request (.op (Ports.select 0b0010))) [.never]) ∧
      ((nextOf (step (offered (.request (.op (Ports.select 0b0010))) [.never]))).map fun t => (t.busy, t.csN)) =
        some (true, .low) ∧
      AtRest { answering [] with busy := true, csN := .low, sck := .low, operands := [0x0F] } := by
  refine ⟨?_, by decide, ?_⟩ <;> constructor <;> first | decide | exact ⟨by decide, by decide⟩

/-- An Active machine that is asked for DEINIT. -/
def shuttingDown : State :=
  { running [.ok] with trace := [.filEn .high], inputs := [.request (.op (Ports.select 0b1000))] }

theorem witness_StepKeepsTraceLegal :
    TraceLegal shuttingDown ∧ AtRest shuttingDown ∧ (nextOf (step shuttingDown)).isSome = true := by
  refine ⟨rfl, ?_, by decide⟩
  constructor <;> first | decide | exact ⟨by decide, by decide⟩

/-- The clauses: an instruction that is none of the writers, from a state with DESYNC set; a failure that sets it; INIT;
an instruction that leaves the bus alone; a write that never returns. -/
theorem witness_EachRegisterHasItsWriters :
    ((nextOf (exec .cmdReset { answering [.ok] with desync := true })).map fun t => (t.desync, t.seq, t.busy)) =
        some (true, .idle, false) ∧ rewritesGram .cmdReset = false ∧
      ((nextOf (exec .cmdReset (answering [.fail 0 e7]))).map State.desync) = some true ∧
      ((nextOf (exec .init (answering [.fail 0 e7]))).map State.desync) = some true ∧
      drivesBus (.reverse 1) = false ∧ ((nextOf (exec (.reverse 1) (answering []))).map State.draws) = some 0 ∧
      ((nextOf (exec .cmdReset (answering [.never]))).map State.busy) = some true := by decide

/-- Both clauses: an instruction that keeps GRAM, and one that rewrites it, read at the first address behind it. -/
theorem witness_GramFrame :
    (nextOf (exec .cmdReset (answering [.ok]))).isSome = true ∧ rewritesGram .cmdReset = false ∧
      (nextOf (exec (.transform []) (answering []))).isSome = true ∧ rewritesGram (.transform []) = true ∧
      Memory.below 4096 (answering []).gram = true ∧ (4096 : Nat) ≤ 4096 := by decide

theorem witness_OnlyInitAndDeinitReadLifecycle :
    (Instr.showFrame []) ≠ .init ∧ (Instr.showFrame []) ≠ .deinit := by decide

/-- The hypothesis, and each clause: an instruction that keeps GRAM, one that rewrites it, one that fails, INIT. -/
theorem witness_DesyncAndOldGramAreNeverRead :
    (Instr.init = .init → (answering []).lifecycle ≠ .standby) ∧ rewritesGram .cmdReset = false ∧
      rewritesGram (.transform []) = true ∧ Instr.transform [] ≠ .init ∧
      ((nextOf (exec .cmdReset (answering [.fail 0 e7]))).map fun t => (t.busy, t.status)) =
        some (false, .ioFailure e7) := by decide

theorem witness_TraceOnlyGrows : (nextOf (exec .cmdReset (answering [.ok]))).isSome = true := by decide

theorem witness_StepRunsTheDecodedInstruction :
    (offered (.request (.op (Ports.select 0b1000))) []).busy = false ∧
      (offered (.request (.op (Ports.select 0b1000))) []).inputs = .request (.op (Ports.select 0b1000)) :: [] ∧
      decode (.op (Ports.select 0b1000)) = .ok .deinit := ⟨rfl, rfl, rfl⟩

/-- The first unknown selector and the last. -/
theorem witness_UnknownSelectorIsRefused :
    (offered (.request (.op (Ports.select 0b1001))) []).busy = false ∧
      (offered (.request (.op (Ports.select 0b1001))) []).inputs = .request (.op (Ports.select 0b1001)) :: [] ∧
      9 ≤ (Ports.select 0b1001).sel.toNat ∧ 9 ≤ (Ports.select 0b1111).sel.toNat := by decide

/-- Both kinds of core. -/
theorem witness_IdleAndBusyCoresStay :
    (answering []).inputs = [] ∧ (hanging [.request (encode .init)]).busy = true ∧
      (hanging [.request (encode .init)]).inputs = .request (encode .init) :: [] := ⟨rfl, rfl, rfl⟩

theorem witness_BlockResetRestoresTheResetValues : (offered .blockReset []).inputs = .blockReset :: [] := by decide

theorem witness_DecodeInvertsEncode :
    (Instr.setBrightness 65535).WellFormed = true ∧ (Instr.transform [(1535, 0x80)]).WellFormed = true := by decide

/-- A frame whose first byte is no opcode, and one with a table opcode and a payload of another length. -/
theorem witness_OpcodesAreDistinctAndOthersAreSent :
    (∀ c : Command, c.op = Config.opcodeMap 10 → takesPayload c ([] : List Byte).length = false) ∧
      ∀ c : Command, c.op = Command.displayMode.op → takesPayload c ([1, 2] : List Byte).length = false := by
  constructor
  · intro c h
    have hidx : c.index = 10 := Config.opcodeMap.injective h
    cases c <;> exact absurd hidx (by decide)
  · intro c h
    cases (Command.op_eq_iff c .displayMode).mp h
    rfl

theorem witness_TableWordRunsNext : decodeTableWord 8 7 = some .init := by decide

/-- Block reset in a hang; the ghost set while an idle core is asked for another operation, and for INIT. -/
theorem witness_TruncatedTransactionOutlivesBlockReset :
    (hanging [.blockReset]).inputs = .blockReset :: [] ∧ (hanging [.blockReset]).csN = .low ∧
      ((nextOf (step { offered (.request (.op (Ports.select 0b1000))) [] with interrupted := true })).map
        State.interrupted) = some true ∧
      ((nextOf (step { offered (.request (.op (Ports.select 0b0111))) [.fail 0 e7] with interrupted := true })).map
        State.interrupted) = some false := by decide

end Sys2Proof.Tests
end

section
/-! PROOFS. BitOrderCodec: what REVERSE and REVERSE_ALL answer, and the ROM as a permutation of the bytes
(40_bitorder_codec.md R110, R112, R114). -/

namespace Sys2Proof.Machine

/-- The whole next state of REVERSE (R110). -/
theorem exec_reverse (b : Byte) (s : State) :
    exec (.reverse b) s = .next { s with status := .ok, result := [rom b], busy := false } := rfl

/-- The whole next state of REVERSE_ALL (R114). -/
theorem exec_reverseAll (bytes : List Byte) (s : State) :
    exec (.reverseAll bytes) s = .next { s with status := .ok, result := reverseAll bytes, busy := false } := rfl

/-- The mirror of a bit position is mirrored back: `7 - (7 - i) = i`. -/
@[simp] theorem rom_rom (b : Byte) : rom (rom b) = b := by
  apply BitVec.eq_of_getLsbD_eq
  intro i h
  calc (rom (rom b)).getLsbD i
      = (rom b).getLsbD (7 - i) := rom_getLsbD _ i h
    _ = b.getLsbD (7 - (7 - i)) := rom_getLsbD b (7 - i) (by omega)
    _ = b.getLsbD i := by rw [Nat.sub_sub_self (by omega)]

theorem rom_involutive : Function.Involutive rom := rom_rom

/-- Each position of REVERSE_ALL's result is the ROM entry of the byte at that position. -/
theorem getElem?_reverseAll (bytes : List Byte) (i : Nat) : (reverseAll bytes)[i]? = bytes[i]?.map rom :=
  List.getElem?_map ..

/-- Settles O1: the result byte is the ROM entry, whose bits are the mirrored ones. -/
theorem reverseMirrorsTheBits : Obligations.ReverseMirrorsTheBits := by
  intro b s
  exact ⟨rom b, exec_reverse b s, rom_getLsbD b⟩

/-- Settles O2: the second REVERSE reads the ROM at an entry of the ROM, which is the first byte again. -/
theorem reverseIsAnInvolution : Obligations.ReverseIsAnInvolution := by
  refine ⟨fun b s => ?_, rom_involutive.bijective⟩
  refine ⟨rom b, _, _, exec_reverse b s, rfl, exec_reverse (rom b) _, ?_⟩
  show [rom (rom b)] = [b]
  rw [rom_rom]

/-- Settles O4: REVERSE_ALL maps the ROM over the bytes, so each position holds its own byte mirrored. -/
theorem reverseAllKeepsLengthAndOrder : Obligations.ReverseAllKeepsLengthAndOrder := by
  intro bytes s
  refine ⟨reverseAll bytes, exec_reverseAll bytes s, reverseAll_length bytes, fun i b hb => ?_⟩
  have hget : (reverseAll bytes)[i]? = some (rom b) := by rw [getElem?_reverseAll, hb, Option.map_some]
  exact ⟨rom b, hget, rom_getLsbD b⟩

end Sys2Proof.Machine
end

section
/-! PROOFS. GRAMTransformer: what TRANSFORM leaves at every GRAM address, read off its loops one after the other
(44_gram_transformer.md R200), and the rules that follow from it (R202, R203, R208). -/

namespace Sys2Proof.Machine

open Sys2Proof.Claims

/-- Of a GRAM address, `a / 16` is the canvas column and `a % 8` the row-group whose copy lies there (R204). -/
theorem eq_gramAddr_iff {a x g : Nat} (hg : g < canvasGroups) :
    (a = gramAddr 1 x g ∨ a = gramAddr 0 x g) ↔ (a / 16 = x ∧ a % 8 = g) := by
  simp only [gramAddr, dup, gramColBytes, canvasGroups] at *
  omega

theorem read_copyByte (c : Canvas) {x g : Nat} (hg : g < canvasGroups) {m : Memory} (hm : Memory.wf m = true)
    (a : Nat) : Memory.read (copyByte c x m g) a =
      if a / 16 = x ∧ a % 8 = g then canvasRead c g x else Memory.read m a := by
  rw [copyByte, Memory.read_write (Memory.write_wf hm ..), Memory.read_write hm, ← ite_or]
  simp only [eq_gramAddr_iff hg]

/-- The loop over the row-groups, stopped behind group `n - 1`. -/
theorem read_foldl_copyByte (c : Canvas) {x : Nat} (hx : x < canvasCols) {m : Memory} (hm : Sound m) (a : Nat)
    {n : Nat} (hn : n ≤ canvasGroups) : Memory.read ((List.range n).foldl (copyByte c x) m) a =
      if a / 16 = x ∧ a % 8 < n then canvasRead c (a % 8) x else Memory.read m a := by
  induction n with
  | zero => simp
  | succ n ih =>
    have hsound : Sound ((List.range n).foldl (copyByte c x) m) :=
      foldl_sound hm fun _ _ hg hm => copyByte_sound c hx ((List.mem_range.1 hg).trans hn) hm
    rw [List.range_succ, List.foldl_append, List.foldl_cons, List.foldl_nil, read_copyByte c hn hsound.1,
      ih (Nat.le_of_succ_le hn)]
    by_cases hlast : a / 16 = x ∧ a % 8 = n
    · obtain ⟨hcol, hgroup⟩ := hlast
      rw [if_pos ⟨hcol, hgroup⟩, if_pos ⟨hcol, by omega⟩, hgroup]
    · rw [if_neg hlast]
      exact if_congr (by omega) rfl rfl

theorem read_copyColumn (c : Canvas) {x : Nat} (hx : x < canvasCols) {m : Memory} (hm : Sound m) (a : Nat) :
    Memory.read (copyColumn c m x) a =
      if a / 16 = x ∧ a % 8 < canvasGroups then canvasRead c (a % 8) x else Memory.read m a :=
  read_foldl_copyByte c hx hm a le_rfl

/-- The loop over the canvas columns, stopped behind column `n - 1`. -/
theorem read_foldl_copyColumn (c : Canvas) (a : Nat) {n : Nat} (hn : n ≤ canvasCols) :
    Memory.read ((List.range n).foldl (copyColumn c) Memory.zeroed) a =
      if a / 16 < n ∧ a % 8 < canvasGroups then canvasRead c (a % 8) (a / 16) else 0x00 := by
  induction n with
  | zero => simp
  | succ n ih =>
    have hsound : Sound ((List.range n).foldl (copyColumn c) Memory.zeroed) :=
      foldl_sound zeroed_sound fun _ _ hx hm => copyColumn_sound c ((List.mem_range.1 hx).trans hn) hm
    rw [List.range_succ, List.foldl_append, List.foldl_cons, List.foldl_nil, read_copyColumn c hn hsound,
      ih (Nat.le_of_succ_le hn)]
    by_cases hlast : a / 16 = n ∧ a % 8 < canvasGroups
    · obtain ⟨hcol, hgroup⟩ := hlast
      rw [if_pos ⟨hcol, hgroup⟩, if_pos ⟨by omega, hgroup⟩, hcol]
    · rw [if_neg hlast]
      exact if_congr (by omega) rfl rfl

theorem read_patchTrigger {m : Memory} (hm : Memory.wf m = true) (a : Nat) :
    Memory.read (patchTrigger m) a = if a = 0 then 0xFF else Memory.read m a := Memory.read_write hm ..

/-- The loops of TRANSFORM give its gather form (R204). -/
theorem read_transformed (c : Canvas) {a : Nat} (ha : a < 4096) : Memory.read (transformed c) a = gather c a := by
  have hsound : Sound ((List.range canvasCols).foldl (copyColumn c) Memory.zeroed) :=
    foldl_sound zeroed_sound fun _ _ hx hm => copyColumn_sound c (List.mem_range.1 hx) hm
  have hcol : a / 16 < 256 := by omega
  rw [transformed, read_patchTrigger hsound.1, read_foldl_copyColumn c a le_rfl, gather, Nat.mod_eq_of_lt hcol]
  simp only [canvasCols, canvasGroups, hcol, true_and, Nat.lt_succ_iff]

/-- TRANSFORM completes from every state and leaves the gather form in GRAM. -/
theorem exec_transform_reads_gather (c : Canvas) (s : State) :
    ∃ t, exec (.transform c) s = .next t ∧ ∀ a, a < 4096 → Memory.read t.gram a = gather c a := by
  refine ⟨_, exec_transform c s, fun a ha => ?_⟩
  rw [read_transformed c ha]

@[simp] theorem gather_zero (c : Canvas) : gather c 0 = 0xFF := rfl

/-- Behind the trigger byte the gather form is the canvas in bytes 0 to 5 of a column and 0x00 in bytes 6 and 7. -/
theorem gather_of_pos (c : Canvas) {a : Nat} (h0 : 0 < a) (ha : a < 4096) :
    gather c a = if a % 8 ≤ 5 then canvasRead c (a % 8) (a / 16) else 0x00 := by
  have hcol : a / 16 < 256 := by omega
  rw [gather, if_neg h0.ne', Nat.mod_eq_of_lt hcol]

/-- Settles O15: bytes 6 and 7 of a column are beyond the row-groups the gather form reads. -/
theorem transformZeroesTheInvisibleBytes : Obligations.TransformZeroesTheInvisibleBytes := by
  intro c s
  obtain ⟨t, ht, hread⟩ := exec_transform_reads_gather c s
  have hzero : ∀ a, a < 4096 → 5 < a % 8 → Memory.read t.gram a = 0x00 := fun a ha hk => by
    rw [hread a ha, gather_of_pos c (by omega) ha, if_neg (by omega)]
  exact ⟨t, ht, fun col hcol => ⟨hzero _ (by omega) (by omega), hzero _ (by omega) (by omega)⟩⟩

/-- Settles O16: the gather form is 0xFF at address 0 and unpatched at every other, address 8 among them. -/
theorem transformForcesTheTrigger : Obligations.TransformForcesTheTrigger := by
  intro c s
  obtain ⟨t, ht, hread⟩ := exec_transform_reads_gather c s
  have hrest : ∀ a, 0 < a → a < 4096 →
      Memory.read t.gram a = if a % 8 ≤ 5 then canvasRead c (a % 8) (a / 16) else 0x00 := fun a h0 ha => by
    rw [hread a ha, gather_of_pos c h0 ha]
  exact ⟨t, ht, (hread 0 (by decide)).trans (gather_zero c), hrest 8 (by decide) (by decide), hrest⟩

/-- Settles O21: addresses 80 and 88 are the two copies of canvas byte (0, 5); every other address but the trigger
holds another canvas byte, or none. -/
theorem singlePixelScenario : Obligations.SinglePixelScenario := by
  intro c s hpixel hdark
  obtain ⟨t, ht, htrigger, -, hrest⟩ := transformForcesTheTrigger c s
  refine ⟨t, ht, ?_, ?_, htrigger, fun a ha h80 h88 h0 => ?_⟩
  · exact (hrest 80 (by decide) (by decide)).trans hpixel
  · exact (hrest 88 (by decide) (by decide)).trans hpixel
  · rw [hrest a (by omega) ha]
    split
    · next hgroup =>
      have hother : (a % 8, a / 16) ≠ (0, 5) := by
        rw [Ne, Prod.mk.injEq]
        omega
      exact hdark _ _ (by omega) (by omega) hother
    · rfl

end Sys2Proof.Machine
end

section
/-! PROOFS. Protocol errors (60_exceptions.md R241): which operations under way can raise one, and what the length
check of WRITE_GRAM leaves behind. -/

namespace Sys2Proof.Machine

open Sys2Proof.Claims

/-- The operation under way has raised no protocol error (R241). -/
def Progress.NoProtocolError (p : Progress) : Prop := ∀ s, p ≠ .raised .protocol s

theorem goes_noProtocolError (s : State) : (Progress.goes s).NoProtocolError := by
  rintro t ⟨⟩

theorem raised_io_noProtocolError (e : Token) (s : State) : (Progress.raised (.io e) s).NoProtocolError := by
  rintro t ⟨⟩

theorem hung_noProtocolError (s : State) : (Progress.hung s).NoProtocolError := by
  rintro t ⟨⟩

theorem Progress.NoProtocolError.andThen {p : Progress} {f : State → Progress} (hp : p.NoProtocolError)
    (hf : ∀ s, (f s).NoProtocolError) : (p.andThen f).NoProtocolError := by
  cases p with
  | goes s => exact hf s
  | raised e s => exact hp
  | hung s => exact hp

/-- Register writes and waits that follow a part raise nothing. -/
theorem Progress.NoProtocolError.andThen_goes {p : Progress} (hp : p.NoProtocolError) (f : State → State) :
    (p.andThen fun s => .goes (f s)).NoProtocolError := hp.andThen fun s => goes_noProtocolError (f s)

theorem txAll_noProtocolError (parts : List (List Byte)) (s : State) : (txAll parts s).NoProtocolError := by
  induction parts generalizing s with
  | nil => exact goes_noProtocolError s
  | cons t rest ih =>
    cases h : outcomeAt s 0 with
    | ok => rw [txAll_ok h]; exact ih _
    | fail k e => rw [txAll_fail h]; exact raised_io_noProtocolError _ _
    | never => rw [txAll_never h]; exact hung_noProtocolError _

/-- The end of a transaction keeps the failure its body raised. -/
theorem closeTransaction_noProtocolError {p : Progress} (hp : p.NoProtocolError) :
    (closeTransaction p).NoProtocolError := by
  cases p with
  | goes s => exact goes_noProtocolError _
  | raised f s =>
    rintro t ⟨⟩
    exact hp s rfl
  | hung s => exact hp

theorem transaction_noProtocolError (parts : List (List Byte)) (s : State) :
    (transaction parts s).NoProtocolError := closeTransaction_noProtocolError (txAll_noProtocolError _ _)

theorem sendCommand_noProtocolError (op : Byte) (payload : List Byte) (s : State) :
    (sendCommand op payload s).NoProtocolError := transaction_noProtocolError _ _

theorem writeGram_noProtocolError {buf : List Byte} (hb : buf.length = gramBytes) (xs ys : Byte) (s : State) :
    (writeGram buf xs ys s).NoProtocolError := by
  rw [writeGram, if_neg (not_not_intro hb)]
  exact transaction_noProtocolError _ _

theorem writeOwnGram_noProtocolError (s : State) : (writeOwnGram s).NoProtocolError :=
  writeGram_noProtocolError (gramStream_length _) _ _ s

/-- The steps of INIT one by one, then their chain as `initSequence` builds it. -/
theorem initSequence_noProtocolError (s : State) : (initSequence s).NoProtocolError := by
  have h2 : ∀ s, (initT2 s).NoProtocolError := fun _ => (sendCommand_noProtocolError _ _ _).andThen_goes _
  have h3a : ∀ s, (initT3a s).NoProtocolError := fun _ => sendCommand_noProtocolError _ _ _
  have h3b : ∀ s, (initT3b s).NoProtocolError := fun _ => sendCommand_noProtocolError _ _ _
  have h3c : ∀ s, (initT3c s).NoProtocolError := fun _ => (writeOwnGram_noProtocolError _).andThen_goes _
  have h3d : ∀ s, (initT3d s).NoProtocolError := fun _ => sendCommand_noProtocolError _ _ _
  have h3e : ∀ s, (initT3e s).NoProtocolError := fun _ => sendCommand_noProtocolError _ _ _
  have h3f : ∀ s, (initT3f s).NoProtocolError := fun _ => (sendCommand_noProtocolError _ _ _).andThen_goes _
  exact ((((((h2 _).andThen h3a).andThen h3b).andThen h3c).andThen h3d).andThen h3e).andThen fun s =>
    (h3f s).andThen_goes _

theorem deinitSequence_noProtocolError (s : State) : (deinitSequence s).NoProtocolError := by
  unfold deinitSequence
  split
  · exact (sendCommand_noProtocolError _ _ _).andThen_goes _
  · exact goes_noProtocolError _

/-- An operation that returns reports a protocol error only if it raised one. -/
theorem settle_status_ne_protocolError {p : Progress} (hp : p.NoProtocolError) (hbusy : (settle p).busy = false) :
    (settle p).status ≠ .protocolError := by
  cases p with
  | goes s => exact nofun
  | raised f s =>
    cases f with
    | io e => exact nofun
    | protocol => exact absurd rfl (hp s)
  | hung s => exact absurd hbusy nofun

/-- Every instruction that answers a next state settles an operation that raised no protocol error, if a buffer it is
given holds 4096 bytes. -/
theorem exec_settles_noProtocolError {i : Instr} {s t : State} (h : exec i s = .next t)
    (hbuf : ∀ buf xs ys, bufferOf i = some (buf, xs, ys) → buf.length = gramBytes) :
    ∃ p : Progress, p.NoProtocolError ∧ settle p = t := by
  cases i with
  | cmdReset | cmdFrameSync | cmdBrightness | cmdDisplayMode | cmdDisplayOffset | cmdVfdMode | cmdOsc
  | cmdEnterStandby | cmdExitStandby | sendCommand | setBrightness =>
    exact ⟨_, sendCommand_noProtocolError _ _ _, Host.Outcome.next.inj h⟩
  | cmdWriteGram buf xs ys | writeGram buf xs ys =>
    exact ⟨_, writeGram_noProtocolError (hbuf buf xs ys rfl) _ _ _, Host.Outcome.next.inj h⟩
  | reverse | reverseAll | transform => exact ⟨.goes _, goes_noProtocolError _, Host.Outcome.next.inj h⟩
  | showFrame => exact ⟨_, writeOwnGram_noProtocolError _, Host.Outcome.next.inj h⟩
  | init =>
    obtain ⟨-, hrefused⟩ | ⟨-, hnext⟩ := execInit_cases s
    · cases hrefused.symm.trans h
    · exact ⟨_, initSequence_noProtocolError s, Host.Outcome.next.inj (hnext.symm.trans h)⟩
  | deinit => exact ⟨_, deinitSequence_noProtocolError s, Host.Outcome.next.inj h⟩

/-- Both instructions that are given a buffer run WRITE_GRAM on it. -/
theorem exec_of_bufferOf {i : Instr} {buf : List Byte} {xs ys : Byte} (hi : bufferOf i = some (buf, xs, ys))
    (s : State) : exec i s = .next (settle (writeGram buf xs ys s)) := by
  cases i with
  | cmdWriteGram | writeGram =>
    cases hi
    rfl
  | _ => cases hi

/-- A failure taken by an idle core writes STATUS alone. -/
theorem takeFailure_of_idle (f : Failure) {s : State} (hseq : s.seq = .idle) (hbusy : s.busy = false) :
    takeFailure f s = { s with status := statusOf f } := by
  rw [takeFailure, respond, setSeq, ← hseq, ← hbusy]

/-- Settles O13: the length check raises the protocol error before any write, and no transaction raises one. -/
theorem protocolErrorIsTheShapeCheck : Obligations.ProtocolErrorIsTheShapeCheck := by
  refine ⟨fun i buf xs ys s hi hlen hseq hbusy => ?_, fun i s t h hbusy hstatus => ?_, rfl, rfl⟩
  · rw [exec_of_bufferOf hi, writeGram_shape hlen, settle, takeFailure_of_idle _ hseq hbusy, statusOf]
  · by_contra hnone
    have hbuf : ∀ buf xs ys, bufferOf i = some (buf, xs, ys) → buf.length = gramBytes := fun buf xs ys hi =>
      by_contra fun hlen => hnone ⟨buf, xs, ys, hi, hlen⟩
    obtain ⟨p, hp, rfl⟩ := exec_settles_noProtocolError h hbuf
    exact settle_status_ne_protocolError hp hbusy hstatus

end Sys2Proof.Machine
end

section
/-! PROOFS. What an instruction is: the operation under way that each instruction settles (60_exceptions.md R250), in
nine forms instead of nineteen arms. -/

namespace Sys2Proof.Machine

open Sys2Proof.Claims

/-- `Body i s p`: the operation under way that instruction `i` is from state `s`. -/
inductive Body : Instr → State → Progress → Prop
  | command {i : Instr} {op : Byte} {payload : List Byte} {s : State} (h : frameOf i = some (op :: payload)) :
      Body i s (sendCommand op payload s)
  | buffer {i : Instr} {buf : List Byte} {xs ys : Byte} {s : State} (h : bufferOf i = some (buf, xs, ys)) :
      Body i s (writeGram buf xs ys s)
  | reverse {b : Byte} {s : State} : Body (.reverse b) s (.goes (setResult [rom b] s))
  | reverseAll {bytes : List Byte} {s : State} : Body (.reverseAll bytes) s (.goes (setResult (reverseAll bytes) s))
  | transform {c : Canvas} {s : State} : Body (.transform c) s (.goes (setGram (transformed c) s))
  | showFrame {c : Canvas} {s : State} : Body (.showFrame c) s (writeOwnGram (setGram (transformed c) s))
  | setBrightness {v : Nat} {s : State} :
      Body (.setBrightness v) s (sendBrightness (setBrightness (maskBrightness v) s))
  | init {s : State} (h : s.lifecycle ≠ .standby) : Body .init s (initSequence s)
  | deinit {s : State} : Body .deinit s (deinitSequence s)

theorem brightnessPayload_eq (v : BitVec 16) : brightnessPayload v = [v.setWidth 8, (v >>> 8).setWidth 8] := by
  rw [brightnessPayload, lowByte_eq, highByte_eq]

/-- SEND_COMMAND and the nine commands that are one run SEND_COMMAND on their frame. -/
theorem exec_of_frameOf {i : Instr} {op : Byte} {payload : List Byte} (h : frameOf i = some (op :: payload))
    (s : State) : exec i s = .next (settle (sendCommand op payload s)) := by
  cases i with
  | cmdBrightness v =>
    cases h
    rw [← brightnessPayload_eq]
    rfl
  | sendCommand | cmdReset | cmdFrameSync | cmdDisplayMode | cmdDisplayOffset | cmdVfdMode | cmdOsc
  | cmdEnterStandby | cmdExitStandby =>
    cases h
    rfl
  | _ => cases h

theorem exec_init {s : State} (h : s.lifecycle ≠ .standby) : exec .init s = .next (settle (initSequence s)) :=
  if_neg h

theorem exec_showFrame (c : Canvas) (s : State) :
    exec (.showFrame c) s = .next (settle (writeOwnGram (setGram (transformed c) s))) := by
  simp only [exec, execShow]

theorem Body.exec_eq {i : Instr} {s : State} {p : Progress} (h : Body i s p) : exec i s = .next (settle p) := by
  cases h with
  | command h => exact exec_of_frameOf h s
  | buffer h => exact exec_of_bufferOf h s
  | reverse | reverseAll | setBrightness | deinit => rfl
  | transform => rw [exec_transform, settle, returnOk_setGram]
  | showFrame => exact exec_showFrame ..
  | init h => exact exec_init h

theorem frameOf_cons {i : Instr} {f : List Byte} (h : frameOf i = some f) : ∃ op payload, f = op :: payload := by
  cases i with
  | sendCommand | cmdReset | cmdFrameSync | cmdBrightness | cmdDisplayMode | cmdDisplayOffset | cmdVfdMode | cmdOsc
  | cmdEnterStandby | cmdExitStandby =>
    cases h
    exact ⟨_, _, rfl⟩
  | _ => cases h

/-- Every instruction but INIT in Standby is an operation under way. -/
theorem exists_body {i : Instr} {s : State} (h : ¬(i = .init ∧ s.lifecycle = .standby)) : ∃ p, Body i s p := by
  cases i with
  | sendCommand | cmdReset | cmdFrameSync | cmdBrightness | cmdDisplayMode | cmdDisplayOffset | cmdVfdMode | cmdOsc
  | cmdEnterStandby | cmdExitStandby => exact ⟨_, .command rfl⟩
  | cmdWriteGram | writeGram => exact ⟨_, .buffer rfl⟩
  | reverse => exact ⟨_, .reverse⟩
  | reverseAll => exact ⟨_, .reverseAll⟩
  | transform => exact ⟨_, .transform⟩
  | showFrame => exact ⟨_, .showFrame⟩
  | setBrightness => exact ⟨_, .setBrightness⟩
  | init => exact ⟨_, .init fun hl => h ⟨rfl, hl⟩⟩
  | deinit => exact ⟨_, .deinit⟩

theorem exists_body_of_ne_init {i : Instr} (hi : i ≠ .init) (s : State) : ∃ p, Body i s p := exists_body (hi ·.1)

/-- INIT in Standby is refused (43_init_sequencer.md R187). -/
theorem exec_init_of_standby {s : State} (h : s.lifecycle = .standby) :
    exec .init s = .refused (.initInStandby (refuse s)) := if_pos h

/-- An instruction that answers a next state has settled its operation. -/
theorem exec_next {i : Instr} {s t : State} (h : exec i s = .next t) : ∃ p, Body i s p ∧ settle p = t := by
  by_cases hrefused : i = .init ∧ s.lifecycle = .standby
  · obtain ⟨rfl, hl⟩ := hrefused
    cases (exec_init_of_standby hl).symm.trans h
  · obtain ⟨p, hp⟩ := exists_body hrefused
    exact ⟨p, hp, Host.Outcome.next.inj (hp.exec_eq.symm.trans h)⟩

/-- Settles O47: every other instruction has a body, whose settled state it answers. -/
theorem onlyInitInStandbyIsRefused : Obligations.OnlyInitInStandbyIsRefused := by
  intro i s
  constructor
  · rintro ⟨t, ht⟩ ⟨rfl, hl⟩
    cases (exec_init_of_standby hl).symm.trans ht
  · intro h
    obtain ⟨p, hp⟩ := exists_body h
    exact ⟨_, hp.exec_eq⟩

/-- Settles O31: the guard of INIT is the lifecycle state alone. -/
theorem initInStandbyIsRefused : Obligations.InitInStandbyIsRefused := fun _ h => exec_init_of_standby h

end Sys2Proof.Machine
end

section
/-! PROOFS. How an operation under way ends, and everything a transaction can do whatever the transport answers
(41_protocol_engine.md R125 to R133). -/

namespace Sys2Proof.Machine

/-- What holds of the state an operation under way has reached, by the way it stands there. -/
inductive Progress.Ends (G : State → Prop) (R : Failure → State → Prop) (H : State → Prop) : Progress → Prop
  | goes {s : State} : G s → Progress.Ends G R H (.goes s)
  | raised {f : Failure} {s : State} : R f s → Progress.Ends G R H (.raised f s)
  | hung {s : State} : H s → Progress.Ends G R H (.hung s)

section
variable {G G' : State → Prop} {R R' : Failure → State → Prop} {H H' : State → Prop} {p : Progress}

/-- The rule of sequence: a failure and a hang pass the rest by. -/
theorem Progress.Ends.andThen {f : State → Progress} (hp : p.Ends G R H) (hf : ∀ s, G s → (f s).Ends G' R H) :
    (p.andThen f).Ends G' R H := by
  cases hp with
  | goes h => exact hf _ h
  | raised h => exact .raised h
  | hung h => exact .hung h

theorem Progress.Ends.mono (hp : p.Ends G R H) (hG : ∀ s, G s → G' s) (hR : ∀ f s, R f s → R' f s)
    (hH : ∀ s, H s → H' s) : p.Ends G' R' H' := by
  cases hp with
  | goes h => exact .goes (hG _ h)
  | raised h => exact .raised (hR _ _ h)
  | hung h => exact .hung (hH _ h)

end

/-! ### The transport's answers -/

/-- From `s` to `u` the transport was asked for `n` writes, and each returned ok. -/
structure Wrote (s : State) (n : Nat) (u : State) : Prop where
  transport : u.transport = s.transport.drop n
  draws : u.draws = s.draws + n
  ok : ∀ m, m < n → outcomeAt s m = .ok

/-- From `s` to `u` the transport was asked for the writes 0 to `m`; all but the last returned ok, and the last answered
`o`. -/
structure Broke (s : State) (m : Nat) (o : TxOutcome) (u : State) : Prop where
  transport : u.transport = s.transport.drop (m + 1)
  draws : u.draws = s.draws + (m + 1)
  ok : ∀ i, i < m → outcomeAt s i = .ok
  last : outcomeAt s m = o

/-- A state that differs neither in the transport's plan nor in the counter of draws. -/
theorem Wrote.zero {s u : State} (ht : u.transport = s.transport) (hd : u.draws = s.draws) : Wrote s 0 u :=
  ⟨ht, hd, nofun⟩

theorem Wrote.outcomeAt_eq {s u : State} {n : Nat} (h : Wrote s n u) (m : Nat) :
    outcomeAt u m = outcomeAt s (n + m) := by
  simp [outcomeAt, h.transport, h.draws, Nat.add_assoc]

/-- Answers to the first writes and to those behind them. -/
theorem Wrote.ok_append {s u : State} {n m : Nat} (h : Wrote s n u) (hu : ∀ i, i < m → outcomeAt u i = .ok) :
    ∀ i, i < n + m → outcomeAt s i = .ok := by
  intro i hi
  by_cases hn : i < n
  · exact h.ok i hn
  · have hlate := hu (i - n) (by omega)
    rwa [h.outcomeAt_eq, Nat.add_sub_cancel' (by omega)] at hlate

theorem Wrote.trans {s u v : State} {n m : Nat} (h : Wrote s n u) (h' : Wrote u m v) : Wrote s (n + m) v where
  transport := by rw [h'.transport, h.transport, List.drop_drop]
  draws := by rw [h'.draws, h.draws, Nat.add_assoc]
  ok := h.ok_append h'.ok

theorem Wrote.broke {s u v : State} {n m : Nat} {o : TxOutcome} (h : Wrote s n u) (h' : Broke u m o v) :
    Broke s (n + m) o v where
  transport := by rw [h'.transport, h.transport, List.drop_drop, Nat.add_assoc]
  draws := by rw [h'.draws, h.draws, Nat.add_assoc, Nat.add_assoc]
  ok := h.ok_append h'.ok
  last := by rw [← h.outcomeAt_eq, h'.last]

/-- What was asked of the transport does not depend on the other fields of the state it ends in. -/
theorem Wrote.congr {s u v : State} {n : Nat} (h : Wrote s n u) (ht : v.transport = u.transport)
    (hd : v.draws = u.draws) : Wrote s n v := ⟨ht.trans h.transport, hd.trans h.draws, h.ok⟩

theorem Broke.congr {s u v : State} {m : Nat} {o : TxOutcome} (h : Broke s m o u) (ht : v.transport = u.transport)
    (hd : v.draws = u.draws) : Broke s m o v := ⟨ht.trans h.transport, hd.trans h.draws, h.ok, h.last⟩

/-- The first answer that is not ok stands at one place only. -/
theorem Broke.unique {s u : State} {m j : Nat} {o : TxOutcome} (h : Broke s m o u) (ho : o ≠ .ok)
    (hok : ∀ i, i < j → outcomeAt s i = .ok) (hj : outcomeAt s j ≠ .ok) : m = j ∧ o = outcomeAt s j := by
  rcases Nat.lt_trichotomy m j with hlt | rfl | hgt
  · exact absurd (h.last.symm.trans (hok m hlt)) ho
  · exact ⟨rfl, h.last.symm⟩
  · exact absurd (h.ok j hgt) hj

theorem tx_broke {s : State} {o : TxOutcome} (h : outcomeAt s 0 = o) (t : List Byte) : Broke s 0 o (tx t s) :=
  ⟨by simp, rfl, nofun, h⟩

theorem tx_wrote {s : State} (h : outcomeAt s 0 = .ok) (t : List Byte) : Wrote s 1 (tx t s) :=
  ⟨by simp, rfl, fun m hm => by rwa [Nat.lt_one_iff.1 hm]⟩

/-! ### The writes of a transaction -/

/-- SCK rests high after a write that returned (10_state.md R31). -/
theorem tx_sck_of_returned {s : State} (h : outcomeAt s 0 ≠ .never) (t : List Byte) : (tx t s).sck = .high := by
  rw [tx_sck, nextOutcome_eq]
  cases ho : outcomeAt s 0 with
  | ok | fail => rfl
  | never => exact absurd ho h

theorem txAll_ends (parts : List (List Byte)) (s : State) : (txAll parts s).Ends
    (fun u => Wrote s parts.length u ∧ (parts ≠ [] ∨ s.sck = .high → u.sck = .high))
    (fun f u => (∃ m < parts.length, ∃ k e, f = .io e ∧ Broke s m (.fail k e) u) ∧ u.sck = .high)
    (fun u => ∃ m < parts.length, Broke s m .never u) := by
  induction parts generalizing s with
  | nil => exact .goes ⟨.zero rfl rfl, fun h => h.resolve_left (· rfl)⟩
  | cons t rest ih =>
    have hlen : (t :: rest).length = 1 + rest.length := by rw [List.length_cons, Nat.add_comm]
    cases h : outcomeAt s 0 with
    | ok =>
      have htx := tx_wrote h t
      have hsck := tx_sck_of_returned (s := s) (by rw [h]; nofun) t
      rw [txAll_ok h, hlen]
      refine (ih (tx t s)).mono ?_ ?_ ?_
      · rintro u ⟨hu, hrest⟩
        exact ⟨htx.trans hu, fun _ => hrest (.inr hsck)⟩
      · rintro f u ⟨⟨m, hm, k, e, hf, hu⟩, hrest⟩
        exact ⟨⟨1 + m, by omega, k, e, hf, htx.broke hu⟩, hrest⟩
      · rintro u ⟨m, hm, hu⟩
        exact ⟨1 + m, by omega, htx.broke hu⟩
    | fail k e =>
      rw [txAll_fail h]
      exact .raised ⟨⟨0, by omega, k, e, rfl, tx_broke h t⟩, tx_sck_of_returned (by rw [h]; nofun) t⟩
    | never =>
      rw [txAll_never h]
      exact .hung ⟨0, by omega, tx_broke h t⟩

/-- The writes themselves leave chip-select and DESYNC alone. -/
theorem txAll_keeps (parts : List (List Byte)) (s : State) :
    (txAll parts s).state.csN = s.csN ∧ (txAll parts s).state.desync = s.desync := by
  induction parts generalizing s with
  | nil => exact ⟨rfl, rfl⟩
  | cons t rest ih =>
    cases h : outcomeAt s 0 with
    | ok => rw [txAll_ok h]; exact ih (tx t s)
    | fail k e => rw [txAll_fail h]; exact ⟨rfl, rfl⟩
    | never => rw [txAll_never h]; exact ⟨rfl, rfl⟩

/-! ### Everything a transaction can do -/

/-- Chip-select, the operands in flight and the clock between two transactions. -/
structure Closed (u : State) : Prop where
  csN : u.csN = .high
  operands : u.operands = []
  sck : u.sck = .high

/-- From `s`, a part of an operation has made `n` writes, all ok. -/
structure Completed (s : State) (n : Nat) (u : State) : Prop where
  quiet : Quiet s u
  wrote : Wrote s n u
  closed : Closed u
  desync : u.desync = s.desync

/-- From `s`, a part of at most `n` writes has raised the failure `f` of its last write. -/
structure Failed (s : State) (n : Nat) (f : Failure) (u : State) : Prop where
  quiet : Quiet s u
  broke : ∃ m < n, ∃ k e, f = .io e ∧ Broke s m (.fail k e) u
  closed : Closed u
  desync : u.desync = true

/-- From `s`, the last write of a part of at most `n` writes never returns. -/
structure Hung (s : State) (n : Nat) (u : State) : Prop where
  quiet : Quiet s u
  broke : ∃ m < n, Broke s m .never u
  csN : u.csN = .low
  desync : u.desync = s.desync

theorem transaction_ends {parts : List (List Byte)} (hparts : parts ≠ []) (s : State) :
    (transaction parts s).Ends (Completed s parts.length) (Failed s parts.length) (Hung s parts.length) := by
  have hquiet := transaction_quiet parts s
  obtain ⟨hcs, hdesync⟩ := txAll_keeps (parts.map reverseAll) (beginTransaction parts.flatten s)
  have hends := txAll_ends (parts.map reverseAll) (beginTransaction parts.flatten s)
  rw [List.length_map] at hends
  rw [transaction] at hquiet ⊢
  generalize txAll (parts.map reverseAll) (beginTransaction parts.flatten s) = p at hquiet hcs hdesync hends ⊢
  cases hends with
  | goes h =>
    obtain ⟨hwrote, hsck⟩ := h
    exact .goes ⟨hquiet, ⟨hwrote.transport, hwrote.draws, hwrote.ok⟩,
      ⟨rfl, rfl, hsck (.inl (by simpa using hparts))⟩, hdesync⟩
  | raised h =>
    obtain ⟨⟨m, hm, k, e, hf, hbroke⟩, hsck⟩ := h
    exact .raised ⟨hquiet, ⟨m, hm, k, e, hf, hbroke.transport, hbroke.draws, hbroke.ok, hbroke.last⟩,
      ⟨rfl, rfl, hsck⟩, rfl⟩
  | hung h =>
    obtain ⟨m, hm, hbroke⟩ := h
    exact .hung ⟨hquiet, ⟨m, hm, hbroke.transport, hbroke.draws, hbroke.ok, hbroke.last⟩, hcs, hdesync⟩

theorem sendCommand_ends (op : Byte) (payload : List Byte) (s : State) :
    (sendCommand op payload s).Ends (Completed s 1) (Failed s 1) (Hung s 1) :=
  transaction_ends (parts := [_]) (List.cons_ne_nil _ _) s

/-- WRITE_GRAM with a buffer of the right length is a transaction. -/
theorem writeGram_eq {buf : List Byte} (hb : buf.length = gramBytes) (xs ys : Byte) (s : State) :
    writeGram buf xs ys s = transaction [writeGramHeader xs ys, buf] s := if_neg (not_not_intro hb)

theorem writeGram_ends {buf : List Byte} (hb : buf.length = gramBytes) (xs ys : Byte) (s : State) :
    (writeGram buf xs ys s).Ends (Completed s 2) (Failed s 2) (Hung s 2) := by
  rw [writeGram_eq hb]
  exact transaction_ends (parts := [_, _]) (List.cons_ne_nil _ _) s

theorem writeOwnGram_ends (s : State) : (writeOwnGram s).Ends (Completed s 2) (Failed s 2) (Hung s 2) :=
  writeGram_ends (gramStream_length _) _ _ s

end Sys2Proof.Machine
end

section
/-! PROOFS. One rule for the steps of INIT, for any property that its parts keep, and what INIT and DEINIT keep by it
(43_init_sequencer.md R170 to R183). -/

namespace Sys2Proof.Machine

open Sys2Proof.Claims

/-- `I n l` is kept between the steps of INIT, `n` being the writes made since T1 and `l` the value of LIFECYCLE; the
writes of a step fail with `R` and hang with `H`. -/
structure InitRule (I : Nat → Lifecycle → State → Prop) (R : Failure → State → Prop) (H : State → Prop) : Prop where
  lifecycle {n : Nat} {l : Lifecycle} {u : State} (l' : Lifecycle) : I n l u → I n l' (setLifecycle l' u)
  settleTime {n : Nat} {l : Lifecycle} {u : State} (d : Nat) (q : Seq) : I n l u → I n l (wait d (setSeq q u))
  clear {n : Nat} {l : Lifecycle} {u : State} : I n l u → I n l (setGram clearFrame u)
  writes {n : Nat} {l : Lifecycle} {u : State} (q : Seq) (parts : List (List Byte)) : I n l u → parts ≠ [] →
    (∀ m, m < parts.length → initPositions[n + m]? = some q ∧ initLifecycle (n + m) = l) →
    (transaction parts (setSeq q u)).Ends (I (n + parts.length) l) R H

section
variable {I : Nat → Lifecycle → State → Prop} {R : Failure → State → Prop} {H : State → Prop}

/-- A step that is one SEND_COMMAND. -/
theorem InitRule.command (rule : InitRule I R H) {n : Nat} {l : Lifecycle} {q : Seq} (hq : initPositions[n]? = some q)
    (hl : initLifecycle n = l) (op : Byte) (payload : List Byte) {u : State} (h : I n l u) :
    (sendCommand op payload (setSeq q u)).Ends (I (n + 1) l) R H :=
  rule.writes q [frameBytes op payload] h (List.cons_ne_nil _ _) fun m hm => by
    rw [Nat.lt_one_iff.1 hm]
    exact ⟨hq, hl⟩

/-- T3C, whose write-gram is two writes. -/
theorem InitRule.t3c (rule : InitRule I R H) {u : State} (h : I 3 .configuring u) :
    (initT3c u).Ends (I 5 .configuring) R H := by
  have hpositions : ∀ m, m < 2 → initPositions[3 + m]? = some .t3cClear ∧ initLifecycle (3 + m) = .configuring := by
    decide
  rw [initT3c, writeOwnGram_eq]
  exact (rule.writes .t3cClear [_, _] (rule.clear h) (List.cons_ne_nil _ _) hpositions).andThen fun v hv =>
    .goes (rule.settleTime _ _ hv)

/-- The steps T2 to T3F one by one, then their chain as `initSequence` builds it. -/
theorem InitRule.sequence (rule : InitRule I R H) {s : State} (h : I 0 .reset (initT1 s)) :
    (initSequence s).Ends (fun t => ∃ u, I 8 .ready u ∧ t = initT4 u) R H := by
  have h2 : ∀ u, I 0 .reset u → (initT2 u).Ends (I 1 .configuring) R H := fun u hu =>
    (rule.command rfl rfl _ _ hu).andThen fun v hv =>
    .goes (rule.lifecycle _ (rule.settleTime _ _ hv))
  have h3a : ∀ u, I 1 .configuring u → (initT3a u).Ends (I 2 .configuring) R H := fun u => rule.command rfl rfl _ _
  have h3b : ∀ u, I 2 .configuring u → (initT3b u).Ends (I 3 .configuring) R H := fun u hu => by
    rw [initT3b, sendBrightness]
    exact rule.command rfl rfl _ _ hu
  have h3c : ∀ u, I 3 .configuring u → (initT3c u).Ends (I 5 .configuring) R H := fun _ hu => rule.t3c hu
  have h3d : ∀ u, I 5 .configuring u → (initT3d u).Ends (I 6 .configuring) R H := fun u => rule.command rfl rfl _ _
  have h3e : ∀ u, I 6 .configuring u → (initT3e u).Ends (I 7 .configuring) R H := fun u => rule.command rfl rfl _ _
  have h3f : ∀ u, I 7 .configuring u → (initT3f u).Ends (I 8 .ready) R H := fun u hu =>
    (rule.command rfl rfl _ _ hu).andThen fun v hv => .goes (rule.lifecycle _ hv)
  exact ((((((h2 _ h).andThen h3a).andThen h3b).andThen h3c).andThen h3d).andThen h3e).andThen fun u hu =>
    (h3f u hu).andThen fun v hv => .goes ⟨v, hv, rfl⟩

end

/-! ### What INIT keeps -/

/-- What holds between the steps of an INIT that began in `s`, behind T1 and before T4. -/
structure InitAt (s : State) (l : Lifecycle) (u : State) : Prop where
  lifecycle : u.lifecycle = l
  brightness : u.brightness = s.brightness
  status : u.status = s.status
  result : u.result = s.result
  interrupted : u.interrupted = false
  gram : u.gram = s.gram ∨ u.gram = clearFrame
  rstN : u.rstN = .high
  filEn : u.filEn = s.filEn
  config : u.config = s.config
  inputs : u.inputs = s.inputs
  trace : (initT1 s).trace <+: u.trace

theorem initAt_initT1 (s : State) : InitAt s .reset (initT1 s) := by
  constructor
  case gram => exact .inl rfl
  case trace => exact List.prefix_rfl
  all_goals rfl

theorem InitAt.quiet {s u v : State} {l : Lifecycle} (h : InitAt s l u) (hq : Quiet u v) : InitAt s l v where
  lifecycle := hq.lifecycle.trans h.lifecycle
  brightness := hq.brightness.trans h.brightness
  status := hq.status.trans h.status
  result := hq.result.trans h.result
  interrupted := hq.interrupted.trans h.interrupted
  gram := by rw [hq.gram]; exact h.gram
  rstN := hq.rstN.trans h.rstN
  filEn := hq.filEn.trans h.filEn
  config := hq.config.trans h.config
  inputs := hq.inputs.trans h.inputs
  trace := h.trace.trans hq.trace

theorem InitAt.setSeq {s u : State} {l : Lifecycle} (h : InitAt s l u) (q : Seq) : InitAt s l (setSeq q u) :=
  { h with }

theorem InitAt.setLifecycle {s u : State} {l : Lifecycle} (h : InitAt s l u) (l' : Lifecycle) :
    InitAt s l' (setLifecycle l' u) := { h with lifecycle := rfl }

theorem InitAt.wait {s u : State} {l : Lifecycle} (h : InitAt s l u) (d : Nat) : InitAt s l (wait d u) :=
  { h with trace := h.trace.trans (List.prefix_append ..) }

theorem InitAt.clear {s u : State} {l : Lifecycle} (h : InitAt s l u) : InitAt s l (setGram clearFrame u) :=
  { h with gram := .inr rfl }

/-- INIT between two steps, `n` of its writes made. -/
structure InitDone (s : State) (n : Nat) (l : Lifecycle) (u : State) : Prop where
  kept : InitAt s l u
  wrote : Wrote s n u
  desync : u.desync = false
  closed : 0 < n → Closed u

/-- INIT where write `j` has failed (43_init_sequencer.md R183). -/
def InitFailed (s : State) (f : Failure) (u : State) : Prop :=
  ∃ j k e, f = .io e ∧ j < 8 ∧ Broke s j (.fail k e) u ∧ InitAt s (initLifecycle j) u ∧ Closed u ∧ u.desync = true

/-- INIT where write `j` never returns (41_protocol_engine.md R128). -/
def InitHung (s : State) (u : State) : Prop :=
  ∃ j, j < 8 ∧ Broke s j .never u ∧ InitAt s (initLifecycle j) u ∧ initPositions[j]? = some u.seq ∧ u.csN = .low ∧
    u.desync = false

theorem lt_of_initPositions {j : Nat} {q : Seq} (h : initPositions[j]? = some q) : j < 8 :=
  (List.getElem?_eq_some_iff.1 h).1

theorem initRule (s : State) : InitRule (InitDone s) (InitFailed s) (InitHung s) where
  lifecycle l' h := ⟨h.kept.setLifecycle l', h.wrote.congr rfl rfl, h.desync, fun hn => { h.closed hn with }⟩
  settleTime d q h := ⟨(h.kept.setSeq q).wait d, h.wrote.congr rfl rfl, h.desync, fun hn => { h.closed hn with }⟩
  clear h := ⟨h.kept.clear, h.wrote.congr rfl rfl, h.desync, fun hn => { h.closed hn with }⟩
  writes q parts h hparts hpos := by
    have hstart := h.wrote.congr (v := setSeq q _) rfl rfl
    refine (transaction_ends hparts _).mono (fun v hv => ?_) (fun f v hv => ?_) (fun v hv => ?_)
    · exact ⟨(h.kept.setSeq q).quiet hv.quiet, hstart.trans hv.wrote, hv.desync.trans h.desync, fun _ => hv.closed⟩
    · obtain ⟨m, hm, k, e, hf, hbroke⟩ := hv.broke
      obtain ⟨hq, rfl⟩ := hpos m hm
      exact ⟨_, k, e, hf, lt_of_initPositions hq, hstart.broke hbroke, (h.kept.setSeq q).quiet hv.quiet, hv.closed,
        hv.desync⟩
    · obtain ⟨m, hm, hbroke⟩ := hv.broke
      obtain ⟨hq, rfl⟩ := hpos m hm
      have hseq : v.seq = q := hv.quiet.seq
      exact ⟨_, lt_of_initPositions hq, hstart.broke hbroke, (h.kept.setSeq q).quiet hv.quiet, hseq ▸ hq, hv.csN,
        hv.desync.trans h.desync⟩

/-- Everything INIT can come to. -/
theorem initSequence_ends (s : State) :
    (initSequence s).Ends (fun t => ∃ u, InitDone s 8 .ready u ∧ t = initT4 u) (InitFailed s) (InitHung s) :=
  (initRule s).sequence ⟨initAt_initT1 s, .zero rfl rfl, rfl, nofun⟩

/-- T1 with RST_N high is the reset pulse and its two settle times (R172). -/
theorem initT1_trace {s : State} (h : s.rstN = .high) :
    (initT1 s).trace = s.trace ++ [.rstN .low, .wait 10, .rstN .high, .wait 50] := by
  simp [initT1, h, rstLowMs, rstSettleMs]

/-- Settles O28: T1 comes first, and no later step takes events back or moves RST_N. -/
theorem initBeginsWithTheHardwareReset : Obligations.InitBeginsWithTheHardwareReset := by
  intro s hl hrst
  refine ⟨_, exec_init hl, ?_⟩
  rw [← initT1_trace hrst]
  have hends := initSequence_ends s
  generalize initSequence s = p at hends ⊢
  cases hends with
  | goes h =>
    obtain ⟨u, hu, rfl⟩ := h
    exact ⟨hu.kept.trace.trans (List.prefix_append ..), hu.kept.rstN⟩
  | raised h =>
    obtain ⟨j, k, e, -, -, -, hu, -⟩ := h
    exact ⟨hu.trace, hu.rstN⟩
  | hung h =>
    obtain ⟨j, -, -, hu, -⟩ := h
    exact ⟨hu.trace, hu.rstN⟩

/-- Settles O29: the first write that does not return ok is the only place where INIT can have stopped. -/
theorem failedInitRests : Obligations.FailedInitRests := by
  intro s j k e hj hl hcs hrst hok hfail
  have hne : outcomeAt s j ≠ .ok := by rw [hfail]; nofun
  refine ⟨_, exec_init hl, ?_⟩
  have hends := initSequence_ends s
  generalize initSequence s = p at hends ⊢
  cases hends with
  | goes h =>
    obtain ⟨u, hu, rfl⟩ := h
    exact absurd (hu.wrote.ok j hj) hne
  | raised h =>
    obtain ⟨m, k', e', rfl, -, hbroke, hu, hclosed, hdesync⟩ := h
    obtain ⟨rfl, ho⟩ := hbroke.unique nofun hok hne
    cases ho.trans hfail
    exact ⟨hu.lifecycle, rfl, rfl, hdesync, hclosed.csN, hu.rstN, hu.filEn, hu.brightness, hu.interrupted, hu.result,
      hu.config, rfl, hbroke.draws⟩
  | hung h =>
    obtain ⟨m, -, hbroke, -⟩ := h
    obtain ⟨rfl, ho⟩ := hbroke.unique nofun hok hne
    cases ho.trans hfail

/-- Settles O30: as for a failure, with SEQ where the hanging write was made. -/
theorem hangingInitStandsAtItsStep : Obligations.HangingInitStandsAtItsStep := by
  intro s j hj hl hcs hrst hok hnever
  have hne : outcomeAt s j ≠ .ok := by rw [hnever]; nofun
  refine ⟨_, exec_init hl, ?_⟩
  have hends := initSequence_ends s
  generalize initSequence s = p at hends ⊢
  cases hends with
  | goes h =>
    obtain ⟨u, hu, rfl⟩ := h
    exact absurd (hu.wrote.ok j hj) hne
  | raised h =>
    obtain ⟨m, k, e, -, -, hbroke, -⟩ := h
    obtain ⟨rfl, ho⟩ := hbroke.unique nofun hok hne
    cases ho.trans hnever
  | hung h =>
    obtain ⟨m, -, hbroke, hu, hseq, hcs, hdesync⟩ := h
    obtain ⟨rfl, -⟩ := hbroke.unique nofun hok hne
    exact ⟨rfl, hcs, hseq, hu.lifecycle, hu.status, hu.filEn, hu.rstN, hu.brightness, hdesync, hu.interrupted⟩

end Sys2Proof.Machine
end

section
/-! PROOFS. DEINIT by the lifecycle state it is asked in (43_init_sequencer.md R180, R181). -/

namespace Sys2Proof.Machine

open Sys2Proof.Claims

theorem driveFilEn_low (s : State) : driveFilEn .low s = filamentOff s := by
  rw [driveFilEn, filamentOff]
  cases s.filEn <;> rfl

theorem filamentOff_trace (s : State) : (filamentOff s).trace = s.trace ++ edge .filEn s.filEn .low := by
  rw [← driveFilEn_low, driveFilEn_trace]

theorem deinitSequence_of_active {s : State} (h : s.lifecycle = .active) :
    deinitSequence s = (sendCommand Command.enterStandby.op [] (setSeq .deStandby (filamentOff s))).andThen
      fun u => .goes (setSeq .idle (setLifecycle .standby u)) := by
  rw [← driveFilEn_low]
  exact if_pos h

theorem deinitSequence_of_ne_active {s : State} (h : s.lifecycle ≠ .active) :
    deinitSequence s = .goes (setSeq .idle (filamentOff s)) := by
  rw [← driveFilEn_low]
  exact if_neg h

/-- Everything DEINIT from Active can come to. -/
theorem deinitSequence_ends {s : State} (h : s.lifecycle = .active) : (deinitSequence s).Ends
    (fun t => ∃ u, Completed (setSeq .deStandby (filamentOff s)) 1 u ∧ t = setSeq .idle (setLifecycle .standby u))
    (Failed (setSeq .deStandby (filamentOff s)) 1) (Hung (setSeq .deStandby (filamentOff s)) 1) := by
  rw [deinitSequence_of_active h]
  exact (sendCommand_ends _ _ _).andThen fun u hu => .goes ⟨u, hu, rfl⟩

/-- Settles O34: outside Active the sequence ends behind the filament. -/
theorem deinitElsewhereOnlyTurnsTheFilamentOff : Obligations.DeinitElsewhereOnlyTurnsTheFilamentOff := by
  intro s h
  rw [Body.deinit.exec_eq, deinitSequence_of_ne_active h]
  rfl

end Sys2Proof.Machine
end

section
/-! PROOFS. The relations between operations (10_state.md R34): what is left of them inside an operation, how an
operation that ends restores the rest, and that every step keeps them. -/

namespace Sys2Proof.Machine

open Sys2Proof.Claims

/-- The relations of R34 that hold at the end of every part of an operation, not only at its return. -/
structure Steady (u : State) : Prop where
  rstN : u.rstN = .high
  unpowered : u.lifecycle = .unpowered → u.filEn = .low
  standby : u.lifecycle = .standby → u.filEn = .low
  notReady : u.lifecycle ≠ .ready
  gram : GramSound u

theorem AtRest.steady {s : State} (h : AtRest s) : Steady s := { h with }

theorem Steady.quiet {u v : State} (h : Steady u) (hq : Quiet u v) : Steady v where
  rstN := hq.rstN.trans h.rstN
  unpowered := by rw [hq.lifecycle, hq.filEn]; exact h.unpowered
  standby := by rw [hq.lifecycle, hq.filEn]; exact h.standby
  notReady := by rw [hq.lifecycle]; exact h.notReady
  gram := by rw [GramSound, hq.gram]; exact h.gram

theorem Steady.setGram {u : State} (h : Steady u) {m : Memory} (hm : Sound m) : Steady (setGram m u) :=
  { h with gram := hm }

/-- With the filament off every lifecycle state but Ready is allowed. -/
theorem Steady.of_filEn_low {u : State} (hrst : u.rstN = .high) (hfil : u.filEn = .low) (hl : u.lifecycle ≠ .ready)
    (hg : GramSound u) : Steady u := ⟨hrst, fun _ => hfil, fun _ => hfil, hl, hg⟩

theorem filamentOff_steady {s : State} (h : Steady s) : Steady (filamentOff s) :=
  .of_filEn_low h.rstN rfl h.notReady h.gram

/-- Between its steps INIT is in a lifecycle state that says nothing of the filament. -/
theorem InitAt.steady {s u : State} {l : Lifecycle} (h : InitAt s l u) (hs : GramSound s)
    (hl : l = .reset ∨ l = .configuring) : Steady u := by
  obtain ⟨hup, hsb, hr⟩ : u.lifecycle ≠ .unpowered ∧ u.lifecycle ≠ .standby ∧ u.lifecycle ≠ .ready := by
    rw [h.lifecycle]
    rcases hl with rfl | rfl <;> decide
  refine ⟨h.rstN, (absurd · hup), (absurd · hsb), hr, ?_⟩
  rw [GramSound]
  rcases h.gram with hg | hg
  · rw [hg]; exact hs
  · rw [hg]; exact clearFrame_sound

theorem initLifecycle_cases (j : Nat) : initLifecycle j = .reset ∨ initLifecycle j = .configuring := by
  unfold initLifecycle
  split
  · exact .inl rfl
  · exact .inr rfl

theorem initT4_steady {s u : State} {l : Lifecycle} (h : InitAt s l u) (hs : GramSound s) : Steady (initT4 u) := by
  have hgram : GramSound (setLifecycle .configuring u) :=
    ((h.setLifecycle .configuring).steady hs (.inr rfl)).gram
  exact ⟨h.rstN, nofun, nofun, nofun, hgram⟩

/-- How an operation ends whose settled state is at rest. -/
abbrev EndsSteady (p : Progress) : Prop :=
  p.Ends (fun u => Steady u ∧ Closed u ∧ u.seq = .idle) (fun _ u => Steady u ∧ Closed u)
    (fun u => Steady u ∧ u.csN = .low)

theorem EndsSteady.atRest {p : Progress} (h : EndsSteady p) : AtRest (settle p) := by
  cases h with
  | goes h =>
    obtain ⟨hsteady, hclosed, hseq⟩ := h
    exact { hsteady with idle := fun _ => ⟨hclosed.csN, hseq, hclosed.operands, hclosed.sck⟩, hanging := nofun }
  | raised h =>
    obtain ⟨hsteady, hclosed⟩ := h
    exact { hsteady with idle := fun _ => ⟨hclosed.csN, rfl, hclosed.operands, hclosed.sck⟩, hanging := nofun }
  | hung h =>
    obtain ⟨hsteady, hcs⟩ := h
    exact { hsteady with idle := nofun, hanging := fun _ => hcs }

theorem endsSteady_of_ends {s : State} {n : Nat} {p : Progress} (h : p.Ends (Completed s n) (Failed s n) (Hung s n))
    (hs : Steady s) (hseq : s.seq = .idle) : EndsSteady p :=
  h.mono (fun _ hu => ⟨hs.quiet hu.quiet, hu.closed, hu.quiet.seq.trans hseq⟩)
    (fun _ _ hu => ⟨hs.quiet hu.quiet, hu.closed⟩) (fun _ hu => ⟨hs.quiet hu.quiet, hu.csN⟩)

/-- TRANSFORM and SHOW, for any sound buffer in the place of the transformed canvas. -/
theorem setGram_endsSteady {m : Memory} (hm : Sound m) {s : State} (hs : Steady s) (hclosed : Closed s)
    (hseq : s.seq = .idle) : EndsSteady (.goes (setGram m s)) := .goes ⟨hs.setGram hm, { hclosed with }, hseq⟩

theorem writeOwnGram_setGram_endsSteady {m : Memory} (hm : Sound m) {s : State} (hs : Steady s)
    (hseq : s.seq = .idle) : EndsSteady (writeOwnGram (setGram m s)) :=
  endsSteady_of_ends (writeOwnGram_ends _) (hs.setGram hm) hseq

theorem initSequence_endsSteady {s : State} (hs : GramSound s) : EndsSteady (initSequence s) := by
  refine (initSequence_ends s).mono ?_ ?_ ?_
  · rintro _ ⟨u, hu, rfl⟩
    exact ⟨initT4_steady hu.kept hs, { hu.closed (by decide) with }, rfl⟩
  · rintro f u ⟨j, k, e, -, -, -, hu, hclosed, -⟩
    exact ⟨hu.steady hs (initLifecycle_cases j), hclosed⟩
  · rintro u ⟨j, -, -, hu, -, hcs, -⟩
    exact ⟨hu.steady hs (initLifecycle_cases j), hcs⟩

theorem deinitSequence_endsSteady {s : State} (hs : Steady s) (hclosed : Closed s) :
    EndsSteady (deinitSequence s) := by
  have hoff := filamentOff_steady hs
  by_cases hl : s.lifecycle = .active
  · have hoff' : Steady (setSeq .deStandby (filamentOff s)) := { hoff with }
    refine (deinitSequence_ends hl).mono ?_ (fun f u hu => ⟨hoff'.quiet hu.quiet, hu.closed⟩)
      (fun u hu => ⟨hoff'.quiet hu.quiet, hu.csN⟩)
    rintro _ ⟨u, hu, rfl⟩
    exact ⟨.of_filEn_low (hoff'.quiet hu.quiet).rstN hu.quiet.filEn nofun (hoff'.quiet hu.quiet).gram,
      { hu.closed with }, rfl⟩
  · rw [deinitSequence_of_ne_active hl]
    exact .goes ⟨{ hoff with }, { hclosed with }, rfl⟩

/-- Every operation that begins at rest ends steady. -/
theorem Body.endsSteady {i : Instr} {s : State} {p : Progress} (h : Body i s p) (hs : AtRest s)
    (hbusy : s.busy = false) : EndsSteady p := by
  obtain ⟨hcs, hseq, hop, hsck⟩ := hs.idle hbusy
  have hclosed : Closed s := ⟨hcs, hop, hsck⟩
  have hsteady := hs.steady
  cases h with
  | command => exact endsSteady_of_ends (sendCommand_ends ..) hsteady hseq
  | @buffer _ buf xs ys =>
    by_cases hlen : buf.length = gramBytes
    · exact endsSteady_of_ends (writeGram_ends hlen ..) hsteady hseq
    · rw [writeGram_shape hlen]
      exact .raised ⟨hsteady, hclosed⟩
  | reverse | reverseAll => exact .goes ⟨{ hsteady with }, { hclosed with }, hseq⟩
  | transform => exact setGram_endsSteady (transformed_sound _) hsteady hclosed hseq
  | showFrame => exact writeOwnGram_setGram_endsSteady (transformed_sound _) hsteady hseq
  | setBrightness => exact endsSteady_of_ends (sendCommand_ends ..) { hsteady with } hseq
  | init => exact initSequence_endsSteady hs.gram
  | deinit => exact deinitSequence_endsSteady hsteady hclosed

end Sys2Proof.Machine
end

section
/-! PROOFS. What one step of the machine can be, and the invariants that every step keeps. -/

namespace Sys2Proof.Machine

open Sys2Proof.Claims

/-- A step that answers a next state leaves the core as it was but for the requests to come, is a block reset, or runs
an instruction of an idle core. -/
theorem step_cases {s t : State} (h : step s = .next t) :
    (∃ rest, t = withInputs rest s) ∨ (∃ rest, s.inputs = .blockReset :: rest ∧ t = blockReset (withInputs rest s)) ∨
      ∃ r rest i, s.busy = false ∧ s.inputs = .request r :: rest ∧ decode r = .ok i ∧
        exec i (withInputs rest s) = .next t := by
  unfold step fetch at h
  match hin : s.inputs with
  | [] =>
    rw [hin] at h
    cases h
    exact .inl ⟨s.inputs, rfl⟩
  | .blockReset :: rest =>
    rw [hin] at h
    cases h
    exact .inr (.inl ⟨rest, rfl, rfl⟩)
  | .request r :: rest =>
    simp only [hin] at h
    cases hbusy : s.busy with
    | true =>
      rw [if_pos hbusy] at h
      cases h
      exact .inl ⟨rest, rfl⟩
    | false =>
      rw [if_neg (by rw [hbusy]; decide)] at h
      cases hdec : decode r with
      | ok i =>
        rw [hdec] at h
        exact .inr (.inr ⟨r, rest, i, rfl, rfl, hdec, h⟩)
      | error e =>
        rw [hdec] at h
        cases h

/-- The reset values are at rest, whatever Device they are the values of (10_state.md R35). -/
theorem constructed_atRest (config : ConfigRecord) : AtRest (State.constructed config) where
  idle _ := ⟨rfl, rfl, rfl, rfl⟩
  hanging := nofun
  rstN := rfl
  unpowered _ := rfl
  standby := nofun
  notReady := nofun
  gram := ⟨rfl, rfl⟩

theorem blockReset_atRest (s : State) : AtRest (blockReset s) := { constructed_atRest s.config with }

/-- Settles O39: the reset values are those of a constructed Device. -/
theorem atRestAfterReset : Obligations.AtRestAfterReset := constructed_atRest _

/-- Settles O40: nothing but an operation that ends can disturb the relations, and each of those ends steady. -/
theorem stepKeepsAtRest : Obligations.StepKeepsAtRest := by
  intro s t hs h
  obtain ⟨rest, rfl⟩ | ⟨rest, -, rfl⟩ | ⟨r, rest, i, hbusy, -, -, hexec⟩ := step_cases h
  · exact { hs with }
  · exact blockReset_atRest _
  · obtain ⟨p, hp, rfl⟩ := exec_next hexec
    have hstart : AtRest (withInputs rest s) := { hs with }
    exact (hp.endsSteady hstart hbusy).atRest

end Sys2Proof.Machine
end

section
/-! PROOFS. Legal traces: what each primitive adds to TRACE is legal from the levels the pins hold, so what an operation
adds is, and every step keeps the whole trace legal (41_protocol_engine.md R129 to R133, 43_init_sequencer.md R172). -/

namespace Sys2Proof.Machine

open Sys2Proof.Claims

/-- The control lines as the pins hold them, with no settle time owed. -/
def linesOf (s : State) : Lines := { csN := s.csN, rstN := s.rstN, filEn := s.filEn, owed := 0 }

/-- From `s` to `u` TRACE has grown by events that are legal from the levels of `s` and lead to those of `u`. -/
def LegalFrom (s u : State) : Prop :=
  ∃ added, u.trace = s.trace ++ added ∧ (linesOf s).replay added = some (linesOf u)

theorem traceLegal_iff (s : State) : TraceLegal s ↔ Lines.atReset.replay s.trace = some (linesOf s) := Iff.rfl

theorem Lines.replay_append (l : Lines) (a b : List Event) :
    l.replay (a ++ b) = (l.replay a).bind fun l' => l'.replay b := by
  induction a generalizing l with
  | nil => rfl
  | cons e a ih =>
    rw [List.cons_append, Lines.replay, Lines.replay]
    cases l.advance e with
    | none => rfl
    | some l' => exact ih l'

theorem LegalFrom.traceLegal {s u : State} (h : LegalFrom s u) (hs : TraceLegal s) : TraceLegal u := by
  obtain ⟨added, htrace, hreplay⟩ := h
  rw [traceLegal_iff] at hs ⊢
  rw [htrace, Lines.replay_append, hs, Option.bind_some, hreplay]

theorem LegalFrom.trans {s u v : State} (h : LegalFrom s u) (h' : LegalFrom u v) : LegalFrom s v := by
  obtain ⟨a, hu, ha⟩ := h
  obtain ⟨b, hv, hb⟩ := h'
  exact ⟨a ++ b, by rw [hv, hu, List.append_assoc], by rw [Lines.replay_append, ha, Option.bind_some, hb]⟩

/-- A state with the same trace and pins. -/
theorem LegalFrom.of_eq {s u : State} (htrace : u.trace = s.trace) (hlines : linesOf u = linesOf s) :
    LegalFrom s u := ⟨[], by rw [htrace, List.append_nil], congrArg some hlines.symm⟩

/-- One event. -/
theorem LegalFrom.of_advance {s u : State} {e : Event} (htrace : u.trace = s.trace ++ [e])
    (h : (linesOf s).advance e = some (linesOf u)) : LegalFrom s u := ⟨[e], htrace, by rw [Lines.replay, h]; rfl⟩

/-- Bytes are legal inside an assertion and change no line. -/
theorem replay_tx {l : Lines} (h : l.csN = .low) (bytes : List Byte) : l.replay (bytes.map .tx) = some l := by
  induction bytes with
  | nil => rfl
  | cons b bytes ih => rw [List.map_cons, Lines.replay, Lines.advance, if_pos h, Option.bind_some, ih]

theorem tx_legal {s : State} (h : s.csN = .low) (t : List Byte) : LegalFrom s (tx t s) := ⟨_, rfl, replay_tx h _⟩

theorem txAll_legal {s : State} (h : s.csN = .low) (parts : List (List Byte)) :
    LegalFrom s (txAll parts s).state := by
  induction parts generalizing s with
  | nil => exact .of_eq rfl rfl
  | cons t rest ih =>
    cases ho : outcomeAt s 0 with
    | ok => rw [txAll_ok ho]; exact (tx_legal h t).trans (ih (s := tx t s) h)
    | fail k e => rw [txAll_fail ho]; exact tx_legal h t
    | never => rw [txAll_never ho]; exact tx_legal h t

theorem beginTransaction_legal {s : State} (hcs : s.csN = .high) (hrst : s.rstN = .high) (p : List Byte) :
    LegalFrom s (beginTransaction p s) := by
  refine .of_advance (e := .csN .low) ?_ ?_
  · simp [beginTransaction, hcs]
  · simp [Lines.advance, linesOf, beginTransaction, hcs, hrst]

theorem endTransaction_legal {s : State} (hcs : s.csN = .low) (hrst : s.rstN = .high) :
    LegalFrom s (endTransaction s) := by
  refine .of_advance (e := .csN .high) ?_ ?_
  · simp [endTransaction, hcs]
  · simp [Lines.advance, linesOf, endTransaction, hcs, hrst]

theorem closeTransaction_legal {p : Progress} (hcs : p.state.csN = .low) (hrst : p.state.rstN = .high) :
    LegalFrom p.state (closeTransaction p).state := by
  cases p with
  | goes s => exact endTransaction_legal hcs hrst
  | raised f s => exact (endTransaction_legal hcs hrst).trans (.of_eq rfl rfl)
  | hung s => exact .of_eq rfl rfl

theorem transaction_legal {s : State} (hcs : s.csN = .high) (hrst : s.rstN = .high) (parts : List (List Byte)) :
    LegalFrom s (transaction parts s).state := by
  have hbegin := beginTransaction_legal hcs hrst parts.flatten
  have hbody := txAll_legal (s := beginTransaction parts.flatten s) rfl (parts.map reverseAll)
  refine (hbegin.trans hbody).trans (closeTransaction_legal ?_ ?_)
  · exact (txAll_keeps _ _).1
  · exact (txAll_quiet _ _).rstN.trans hrst

theorem setGram_legal (m : Memory) (s : State) : LegalFrom s (setGram m s) := .of_eq rfl rfl

theorem writeOwnGram_setGram_legal {s : State} (hcs : s.csN = .high) (hrst : s.rstN = .high) (m : Memory) :
    LegalFrom s (writeOwnGram (setGram m s)).state := by
  rw [writeOwnGram_eq]
  exact (setGram_legal m s).trans (transaction_legal (s := setGram m s) hcs hrst _)

theorem wait_legal {s : State} (h : s.csN = .high) (d : Nat) : LegalFrom s (wait d s) :=
  .of_advance (e := .wait d) rfl (by simp [Lines.advance, linesOf, h])

theorem driveFilEn_legal {s : State} (h : s.csN = .high) (l : Level) : LegalFrom s (driveFilEn l s) := by
  by_cases hl : s.filEn = l
  · exact .of_eq (by simp [hl]) (by simp [linesOf, hl])
  · refine .of_advance (e := .filEn l) (by simp [edge_of_ne _ hl]) ?_
    simp [Lines.advance, linesOf, h, hl]

/-- The reset pulse and its two settle times leave nothing owed. -/
theorem initT1_legal {s : State} (hcs : s.csN = .high) (hrst : s.rstN = .high) : LegalFrom s (initT1 s) := by
  refine ⟨_, initT1_trace hrst, ?_⟩
  simp [Lines.replay, Lines.advance, linesOf, hcs, hrst, initT1, rstLowMs, rstSettleMs]

/-- A legal way from `s` to a state between two transactions, with RST_N high. -/
structure LegalRest (s u : State) : Prop where
  legal : LegalFrom s u
  csN : u.csN = .high
  rstN : u.rstN = .high

/-- What the ends of a progress say, with a property of the state it has reached. -/
theorem Progress.Ends.and_state {G H P : State → Prop} {R : Failure → State → Prop} {p : Progress} (hp : p.Ends G R H)
    (h : P p.state) : p.Ends (fun u => G u ∧ P u) (fun f u => R f u ∧ P u) (fun u => H u ∧ P u) := by
  cases hp with
  | goes hu => exact .goes ⟨hu, h⟩
  | raised hu => exact .raised ⟨hu, h⟩
  | hung hu => exact .hung ⟨hu, h⟩

theorem transaction_endsLegal {s u : State} (h : LegalRest s u) {parts : List (List Byte)} (hparts : parts ≠ []) :
    (transaction parts u).Ends (LegalRest s) (fun _ => LegalFrom s) (LegalFrom s) := by
  refine ((transaction_ends hparts u).and_state (transaction_legal h.csN h.rstN parts)).mono ?_ ?_ ?_
  · rintro v ⟨hv, hlegal⟩
    exact ⟨h.legal.trans hlegal, hv.closed.csN, hv.quiet.rstN.trans h.rstN⟩
  · exact fun f v hv => h.legal.trans hv.2
  · exact fun v hv => h.legal.trans hv.2

theorem initRule_legal (s : State) :
    InitRule (fun _ _ => LegalRest s) (fun _ => LegalFrom s) (LegalFrom s) where
  lifecycle _ h := ⟨h.legal.trans (.of_eq rfl rfl), h.csN, h.rstN⟩
  settleTime d q h := ⟨(h.legal.trans (.of_eq rfl rfl)).trans (wait_legal (s := setSeq q _) h.csN d), h.csN, h.rstN⟩
  clear h := ⟨h.legal.trans (.of_eq rfl rfl), h.csN, h.rstN⟩
  writes q _ h hparts _ :=
    transaction_endsLegal (u := setSeq q _) ⟨h.legal.trans (.of_eq rfl rfl), h.csN, h.rstN⟩ hparts

/-- A progress all of whose ends have a property has it. -/
theorem Progress.Ends.state {P : State → Prop} {p : Progress} (h : p.Ends P (fun _ => P) P) : P p.state := by
  cases h with
  | goes hu => exact hu
  | raised hu => exact hu
  | hung hu => exact hu

theorem initSequence_legal {s : State} (hcs : s.csN = .high) (hrst : s.rstN = .high) :
    LegalFrom s (initSequence s).state := by
  have hT1 : LegalRest s (initT1 s) := ⟨initT1_legal hcs hrst, hcs, rfl⟩
  refine (((initRule_legal s).sequence hT1).mono ?_ (fun _ _ => id) (fun _ => id)).state
  rintro _ ⟨u, hu, rfl⟩
  have hT4 : LegalFrom u (driveFilEn .high u) := driveFilEn_legal hu.csN .high
  exact (hu.legal.trans hT4).trans (.of_eq rfl rfl)

theorem deinitSequence_legal {s : State} (hcs : s.csN = .high) (hrst : s.rstN = .high) :
    LegalFrom s (deinitSequence s).state := by
  have hoff : LegalFrom s (filamentOff s) := driveFilEn_low s ▸ driveFilEn_legal hcs .low
  by_cases hl : s.lifecycle = .active
  · have hsend := transaction_legal (s := setSeq .deStandby (filamentOff s)) hcs hrst
      [frameBytes Command.enterStandby.op []]
    rw [← sendCommand] at hsend
    rw [deinitSequence_of_active hl]
    generalize sendCommand _ _ _ = p at hsend ⊢
    have hp : LegalFrom s p.state := hoff.trans (.trans (.of_eq rfl rfl) hsend)
    cases p with
    | goes u => exact hp.trans (.of_eq rfl rfl)
    | raised | hung => exact hp
  · rw [deinitSequence_of_ne_active hl]
    exact hoff.trans (.of_eq rfl rfl)

theorem Body.legal {i : Instr} {s : State} {p : Progress} (h : Body i s p) (hcs : s.csN = .high)
    (hrst : s.rstN = .high) : LegalFrom s p.state := by
  cases h with
  | command => exact transaction_legal hcs hrst _
  | @buffer _ buf xs ys =>
    by_cases hlen : buf.length = gramBytes
    · rw [writeGram_eq hlen]
      exact transaction_legal hcs hrst _
    · rw [writeGram_shape hlen]
      exact .of_eq rfl rfl
  | reverse | reverseAll => exact .of_eq rfl rfl
  | transform => exact setGram_legal ..
  | showFrame => exact writeOwnGram_setGram_legal hcs hrst _
  | @setBrightness v =>
    exact (LegalFrom.of_eq rfl rfl).trans
      (transaction_legal (s := Machine.setBrightness (maskBrightness v) s) hcs hrst _)
  | init => exact initSequence_legal hcs hrst
  | deinit => exact deinitSequence_legal hcs hrst

/-- Returning, failing and hanging add no event and move no pin. -/
theorem settle_legal (p : Progress) : LegalFrom p.state (settle p) := by
  cases p with
  | goes | raised | hung => exact .of_eq rfl rfl

/-- Settles O41: the lines of the empty trace are the pins at reset. -/
theorem traceLegalAfterReset : Obligations.TraceLegalAfterReset := rfl

/-- Settles O42: an instruction that runs from rest adds a legal trace, and no other step adds any. -/
theorem stepKeepsTraceLegal : Obligations.StepKeepsTraceLegal := by
  intro s t hs hlegal h
  obtain ⟨rest, rfl⟩ | ⟨rest, -, rfl⟩ | ⟨r, rest, i, hbusy, -, -, hexec⟩ := step_cases h
  · exact hlegal
  · rfl
  · obtain ⟨p, hp, rfl⟩ := exec_next hexec
    have hrun : LegalFrom (withInputs rest s) (settle p) :=
      (hp.legal (hs.idle hbusy).1 hs.rstN).trans (settle_legal p)
    exact hrun.traceLegal hlegal

end Sys2Proof.Machine
end

section
/-! PROOFS. Decoding against encoding (30_encoding.md sections 1 to 6). -/

namespace Sys2Proof.Machine

open Sys2Proof.Claims

/-- A payload of the table's shape decodes to the command's instruction. -/
theorem decode_frame_of_shape {c : Command} {payload : List Byte} {i : Instr}
    (h : instrOfCommand c payload = some i) : decode (.frame c.op payload) = .ok i := by
  rw [← Command.frame, decode_frame, h, Option.getD_some]

/-- A payload of another shape leaves the frame to SEND_COMMAND (R91). -/
theorem decode_frame_of_other_shape {c : Command} {payload : List Byte} (h : instrOfCommand c payload = none) :
    decode (.frame c.op payload) = .ok (.sendCommand c.op payload) := by
  rw [← Command.frame, decode_frame, h, Option.getD_none]

/-- A first byte that is no opcode leaves the frame to SEND_COMMAND (R91). -/
theorem decode_frame_of_no_command {op : Byte} (h : commandOf op = none) (payload : List Byte) :
    decode (.frame op payload) = .ok (.sendCommand op payload) := by
  rw [decode, decodeFrame, h, Option.bind_none, Option.getD_none]

/-- Only a payload of the table's length has the shape of a command (R81). -/
theorem instrOfCommand_of_takesPayload_false : ∀ {c : Command} {payload : List Byte},
    takesPayload c payload.length = false → instrOfCommand c payload = none
  | .reset, _ :: _, _ | .frameSync, _ :: _, _ | .enterStandby, _ :: _, _ | .exitStandby, _ :: _, _ => rfl
  | .displayMode, [], _ | .displayMode, _ :: _ :: _, _ | .osc, [], _ | .osc, _ :: _ :: _, _ => rfl
  | .brightness, [], _ | .brightness, [_], _ | .brightness, _ :: _ :: _ :: _, _ => rfl
  | .displayOffset, [], _ | .displayOffset, [_], _ | .displayOffset, _ :: _ :: _ :: _, _ => rfl
  | .vfdMode, [], _ | .vfdMode, [_], _ | .vfdMode, [_, _], _ | .vfdMode, [_, _, _], _ => rfl
  | .vfdMode, [_, _, _, _], _ | .vfdMode, [_, _, _, _, _], _ | .vfdMode, [_, _, _, _, _, _], _ => rfl
  | .vfdMode, _ :: _ :: _ :: _ :: _ :: _ :: _ :: _ :: _, _ => rfl
  | .writeGram, [], _ | .writeGram, [_], _ => rfl

theorem toNat_ofNat_of_brightnessFits {v : Nat} (h : brightnessFits v = true) : (BitVec.ofNat 16 v).toNat = v := by
  rw [BitVec.toNat_ofNat, Nat.mod_eq_of_lt (of_decide_eq_true h)]

/-- Settles O54: a command's frame has the table's shape, a selector's ports hold the operands, and only the brightness
port is narrower than its operand. -/
theorem decodeInvertsEncode : Obligations.DecodeInvertsEncode := by
  intro i hi
  cases i with
  | cmdBrightness v =>
    have hshape : instrOfCommand .brightness (brightnessPayload v) = some (.cmdBrightness v) :=
      congrArg (fun w => some (Instr.cmdBrightness w)) (wordOfBytes_split v)
    exact decode_frame_of_shape hshape
  | cmdReset | cmdFrameSync | cmdDisplayMode | cmdDisplayOffset | cmdVfdMode | cmdOsc | cmdEnterStandby
  | cmdExitStandby | cmdWriteGram => exact decode_frame_of_shape rfl
  | setBrightness v =>
    show Except.ok (Instr.setBrightness (BitVec.ofNat 16 v).toNat) = _
    rw [toNat_ofNat_of_brightnessFits hi]
  | reverse | reverseAll | sendCommand | writeGram | transform | showFrame | init | deinit => rfl

/-- Settles O55: the decoder reads the ports its selector names. -/
theorem selectorCodesDecode : Obligations.SelectorCodesDecode := by
  intro b op xs ys stream canvas v
  exact ⟨rfl, rfl, rfl, rfl, rfl, rfl, rfl, rfl, rfl⟩

/-- Settles O56: every listed frame has the shape of its row. -/
theorem tableFramesDecode : Obligations.TableFramesDecode := by
  refine ⟨?_, ?_, ?_, ?_, ?_, ?_, ?_, ?_, ?_, fun buf => ?_⟩
  all_goals exact decode_frame_of_shape rfl

theorem opcodes_nodup : (Command.all.map Command.op).Nodup :=
  List.Nodup.map (fun a b => (Command.op_eq_iff a b).1) (by decide)

/-- Settles O57: a free one-to-one map gives distinct opcodes, and a frame finds its command by opcode and length or
not at all. -/
theorem opcodesAreDistinctAndOthersAreSent : Obligations.OpcodesAreDistinctAndOthersAreSent := by
  refine ⟨opcodes_nodup, fun op payload hshape => ?_⟩
  cases hc : commandOf op with
  | none => exact decode_frame_of_no_command hc payload
  | some c =>
    have hop := commandOf_eq_some hc
    rw [← hop]
    exact decode_frame_of_other_shape (instrOfCommand_of_takesPayload_false (hshape c hop))

end Sys2Proof.Machine
end

section
/-! PROOFS. What one step is by what the outside presents (10_state.md R38, 70_reset_and_hazards.md R280). -/

namespace Sys2Proof.Machine

open Sys2Proof.Claims

section
variable {s : State} {rest : List Input}

theorem step_of_no_input (h : s.inputs = []) : step s = .next s := by
  rw [step, fetch, h]

theorem step_of_blockReset (h : s.inputs = .blockReset :: rest) : step s = .next (blockReset (withInputs rest s)) := by
  rw [step, fetch, h]

theorem step_of_busy {r : Request} (h : s.inputs = .request r :: rest) (hbusy : s.busy = true) :
    step s = .next (withInputs rest s) := by
  rw [step, fetch, h]
  simp only [hbusy, if_true]

theorem step_of_decode_ok {r : Request} {i : Instr} (h : s.inputs = .request r :: rest) (hbusy : s.busy = false)
    (hr : decode r = .ok i) : step s = exec i (withInputs rest s) := by
  rw [step, fetch, h]
  simp only [hbusy, Bool.false_eq_true, if_false, hr]

theorem step_of_decode_error {r : Request} {e : Reject} (h : s.inputs = .request r :: rest) (hbusy : s.busy = false)
    (hr : decode r = .error e) : step s = .refused (refusalOf e (withInputs rest s)) := by
  rw [step, fetch, h]
  simp only [hbusy, Bool.false_eq_true, if_false, hr]

end

/-- Selectors 9 to 15 select nothing (30_encoding.md R100). -/
theorem decodePorts_of_nine_le {p : Ports} (h : 9 ≤ p.sel.toNat) : decodePorts p = .error (.unknownSelector p.sel) := by
  unfold decodePorts
  split
  case h_10 => rfl
  all_goals omega

/-- Settles O49: the request at the head of the inputs is taken and decoded. -/
theorem stepRunsTheDecodedInstruction : Obligations.StepRunsTheDecodedInstruction :=
  fun _ _ _ _ hbusy hin hr => step_of_decode_ok hin hbusy hr

/-- Settles O50: the decoder answers an unknown selector, which the step turns into a refusal. -/
theorem unknownSelectorIsRefused : Obligations.UnknownSelectorIsRefused :=
  fun _ _ _ hbusy hin hsel => step_of_decode_error hin hbusy (decodePorts_of_nine_le hsel)

/-- Settles O51: without a request nothing is taken, and a busy core only drops one. -/
theorem idleAndBusyCoresStay : Obligations.IdleAndBusyCoresStay :=
  fun _ => ⟨step_of_no_input, fun _ _ hin hbusy => step_of_busy hin hbusy⟩

/-- Settles O52: block reset builds every field anew but for the environment and the ghost. -/
theorem blockResetRestoresTheResetValues : Obligations.BlockResetRestoresTheResetValues :=
  fun _ _ hin => step_of_blockReset hin

/-- Settles O53: the register is loaded with the low 16 bits of the configured value. -/
theorem resetValues : Obligations.ResetValues := by
  have hbrightness : State.reset.brightness.toNat = Config.record.brightnessInit % 65536 := BitVec.toNat_ofNat ..
  exact ⟨rfl, rfl, hbrightness, rfl, rfl, rfl, rfl, rfl, rfl, rfl, rfl⟩

/-- Settles O58: the word's request stands first before a core that is not busy. -/
theorem tableWordRunsNext : Obligations.TableWordRunsNext := by
  intro s nbits w i h
  have hdecode : decode (requestOfTableWord nbits w) = .ok i := by
    unfold decodeTableWord at h
    split at h
    · next j hj => rw [hj, Option.some.inj h]
    · cases h
  exact step_of_decode_ok (s := s.withFetchWord nbits w) rfl rfl hdecode

end Sys2Proof.Machine
end

section
/-! PROOFS. The laws of REVERSE (40_bitorder_codec.md section 1), each read off the mirrored bits, and what the receiver
assembles of a byte. -/

namespace Sys2Proof.Machine

open Sys2Proof.Claims

/-- Two bytes whose eight bits agree. -/
theorem byte_ext {a b : Byte} (h : ∀ i, i < 8 → a.getLsbD i = b.getLsbD i) : a = b := BitVec.eq_of_getLsbD_eq h

/-- Counting the mirrored bits counts the bits from the other end. -/
theorem countP_rom (b : Byte) : (List.range 8).countP (rom b).getLsbD = (List.range 8).countP b.getLsbD := by
  have hmirror : (List.range 8).map (7 - ·) = (List.range 8).reverse := by decide
  calc (List.range 8).countP (rom b).getLsbD
      = (List.range 8).countP (b.getLsbD ∘ (7 - ·)) :=
        List.countP_congr fun i hi => by rw [rom_getLsbD b i (List.mem_range.1 hi), Function.comp]
    _ = ((List.range 8).map (7 - ·)).countP b.getLsbD := List.countP_map.symm
    _ = (List.range 8).countP b.getLsbD := by rw [hmirror, List.countP_reverse]

theorem rom_and (a b : Byte) : rom (a &&& b) = rom a &&& rom b :=
  byte_ext fun i h => by simp only [BitVec.getLsbD_and, rom_getLsbD _ i h]

theorem rom_or (a b : Byte) : rom (a ||| b) = rom a ||| rom b :=
  byte_ext fun i h => by simp only [BitVec.getLsbD_or, rom_getLsbD _ i h]

theorem rom_xor (a b : Byte) : rom (a ^^^ b) = rom a ^^^ rom b :=
  byte_ext fun i h => by simp only [BitVec.getLsbD_xor, rom_getLsbD _ i h]

theorem rom_not (a : Byte) : rom (~~~a) = ~~~rom a :=
  byte_ext fun i h => by
    simp only [BitVec.getLsbD_not, rom_getLsbD _ i h, h, show 7 - i < 8 by omega]

/-- A bit that a left shift moves past bit 7 is the one the right shift of the mirrored byte moves past bit 0. -/
theorem rom_shiftLeft (b : Byte) (k : Nat) : rom (b <<< k) = rom b >>> k := by
  refine byte_ext fun i h => ?_
  rw [rom_getLsbD _ _ h, BitVec.getLsbD_shiftLeft, BitVec.getLsbD_ushiftRight]
  by_cases hk : k + i < 8
  · rw [rom_getLsbD _ _ hk, show 7 - i - k = 7 - (k + i) by omega]
    simp [show 7 - i < 8 by omega, show ¬7 - i < k by omega]
  · rw [BitVec.getLsbD_of_ge (rom b) _ (by omega)]
    simp [show 7 - i < k by omega]

/-- The sixteen bytes that are their own mirror. -/
theorem rom_eq_self_iff (b : Byte) : rom b = b ↔ b ∈ ([0x00, 0x18, 0x24, 0x3C, 0x42, 0x5A, 0x66, 0x7E, 0x81, 0x99, 0xA5,
    0xBD, 0xC3, 0xDB, 0xE7, 0xFF] : List Byte) := by
  revert b
  decide +kernel

/-- Settles O3: each law from its own lemma, the nibbles from the mirrored bits. -/
theorem reverseLaws : Obligations.ReverseLaws := by
  refine ⟨countP_rom, fun a b => ⟨rom_and a b, rom_or a b, rom_xor a b, rom_not a⟩, fun b k _ => rom_shiftLeft b k,
    rom_eq_self_iff, fun b i hi => ⟨?_, rom_getLsbD b i (by omega)⟩⟩
  rw [rom_getLsbD b (4 + i) (by omega), show 7 - (4 + i) = 3 - i by omega]

/-- MOSI shows the bits of the ROM entry from bit 7 down, which are those of the natural byte from bit 0 up. -/
theorem mosiBits_rom (n : Byte) : mosiBits (rom n) = (List.range 8).map n.getLsbD := by
  refine List.map_congr_left fun j hj => ?_
  have hj8 := List.mem_range.1 hj
  rw [rom_getLsbD n (7 - j) (by omega), Nat.sub_sub_self (by omega)]

@[simp] theorem wireByte_rom (n : Byte) : wireByte (rom n) = n :=
  byte_ext fun i h => by rw [wireByte_getLsbD _ _ h, rom_getLsbD n (7 - i) (by omega), Nat.sub_sub_self (by omega)]

/-- Settles O5: both directions of the wire mirror the byte once more. -/
theorem naturalByteReachesTheReceiver : Obligations.NaturalByteReachesTheReceiver :=
  fun n => ⟨mosiBits_rom n, wireByte_rom n⟩

end Sys2Proof.Machine
end

section
/-! PROOFS. The gather form of TRANSFORM (44_gram_transformer.md R204) as the whole content of the buffer: its copies,
its pixels, and the buffer as a byte stream. -/

namespace Sys2Proof.Machine

open Sys2Proof.Claims

/-- Settles O14: the buffer is sound, and its loops read as the gather form. -/
theorem transformEqualsGather : Obligations.TransformEqualsGather := by
  intro c s
  exact ⟨transformed c, exec_transform c s, transformed_wf c, transformed_below c, fun a ha => read_transformed c ha⟩

/-- The copy `d` of canvas byte (`g`, `x`) is in place, but for the first copy of (0, 0). -/
theorem gather_copy (c : Canvas) {x g d : Nat} (hx : x < 256) (hg : g < 6) (hd : d < 2)
    (hne : ¬(x = 0 ∧ g = 0 ∧ d = 0)) : gather c ((2 * x + d) * 8 + g) = canvasRead c g x := by
  have hgroup : ((2 * x + d) * 8 + g) % 8 = g := by omega
  have hcol : ((2 * x + d) * 8 + g) / 16 = x := by omega
  rw [gather_of_pos c (by omega) (by omega), hgroup, hcol, if_pos (by omega)]

/-- Settles O17: the two copies are copy 0 and copy 1 of the gather form. -/
theorem transformDuplicatesEveryByte : Obligations.TransformDuplicatesEveryByte := by
  intro c s x g hx hg hne
  obtain ⟨t, ht, hread⟩ := exec_transform_reads_gather c s
  have hne' : ¬(x = 0 ∧ g = 0 ∧ 0 = 0) := fun h => hne (by rw [h.1, h.2.1])
  refine ⟨t, ht, ?_, ?_⟩
  · rw [hread _ (by omega), ← gather_copy c hx hg (by decide : 0 < 2) hne', Nat.add_zero]
  · rw [hread _ (by omega), gather_copy c hx hg (by decide) (by omega)]

/-- Settles O19: pixel row `y` is bit `y % 8` of row-group `y / 8`. -/
theorem pixelLandsInTwoColumns : Obligations.PixelLandsInTwoColumns := by
  intro c s x y d hx hy hd hne
  obtain ⟨t, ht, hread⟩ := exec_transform_reads_gather c s
  refine ⟨t, ht, ?_⟩
  rw [hread _ (by omega), gather_copy c hx (by omega) hd (by omega)]

/-- The gather form reads the 1536 bytes of the canvas and nothing else. -/
theorem gather_congr {c c' : Canvas} (h : ∀ g x, g < 6 → x < 256 → canvasRead c g x = canvasRead c' g x) (a : Nat) :
    gather c a = gather c' a := by
  have hbyte : a % 8 ≤ 5 → canvasRead c (a % 8) (a / 16 % 256) = canvasRead c' (a % 8) (a / 16 % 256) := fun hk =>
    h _ _ (by omega) (Nat.mod_lt _ (by decide))
  rw [gather, gather]
  split
  · rfl
  · split
    · next hk => exact hbyte hk
    · rfl

/-- Two canonical memories of 4096 bytes that read alike there are the same list. -/
theorem Sound.ext {m m' : Memory} (hm : Sound m) (hm' : Sound m')
    (h : ∀ a, a < gramBytes → Memory.read m a = Memory.read m' a) : m = m' := by
  refine Memory.ext_read hm.1 hm'.1 fun a => ?_
  by_cases ha : a < gramBytes
  · exact h a ha
  · rw [Memory.read_of_below hm.2 (by omega), Memory.read_of_below hm'.2 (by omega)]

theorem transformed_congr {c c' : Canvas} (h : ∀ g x, g < 6 → x < 256 → canvasRead c g x = canvasRead c' g x) :
    transformed c = transformed c' :=
  (transformed_sound c).ext (transformed_sound c') fun a ha => by
    rw [read_transformed c ha, read_transformed c' ha, gather_congr h]

theorem settle_setGram_gram (m : Memory) (s : State) : (settle (.goes (setGram m s))).gram = m := rfl

theorem exec_transform_gram (c : Canvas) (s : State) :
    ∃ t, exec (.transform c) s = .next t ∧ t.gram = transformed c :=
  ⟨_, Body.transform.exec_eq, settle_setGram_gram ..⟩

/-- Settles O18: sound buffers that read alike are one list. -/
theorem transformDependsOnTheCanvasAlone : Obligations.TransformDependsOnTheCanvasAlone := by
  intro c c' s s' h
  obtain ⟨t, ht, hgram⟩ := exec_transform_gram c s
  obtain ⟨t', ht', hgram'⟩ := exec_transform_gram c' s'
  exact ⟨t, t', ht, ht', by rw [hgram, hgram', transformed_congr h], gramStream_length _⟩

/-- The stream of a buffer whose bytes are known. -/
theorem gramStream_eq_map {m : Memory} {f : Nat → Byte} (h : ∀ a, a < gramBytes → Memory.read m a = f a) :
    gramStream m = (List.range gramBytes).map f :=
  List.map_congr_left fun a ha => h a (List.mem_range.1 ha)

theorem gramStream_transformed (c : Canvas) : gramStream (transformed c) = (List.range 4096).map (gather c) :=
  gramStream_eq_map fun _ ha => read_transformed c ha

/-- The buffer that clears the display, as it is sent (43_init_sequencer.md R176). -/
def clearStream : List Byte := 0xFF :: List.replicate 4095 0x00

/-- A buffer that holds the trigger byte and zeros. -/
theorem gramStream_eq_clearStream {m : Memory} (h0 : Memory.read m 0 = 0xFF)
    (h : ∀ a, 0 < a → a < gramBytes → Memory.read m a = 0x00) : gramStream m = clearStream := by
  have hrange : List.range gramBytes = 0 :: (List.range 4095).map Nat.succ := List.range_succ_eq_map
  have htail : ∀ a ∈ List.range 4095, (Memory.read m ∘ Nat.succ) a = 0x00 := fun a ha =>
    h _ a.succ_pos (Nat.succ_lt_succ (List.mem_range.1 ha))
  rw [gramStream, hrange, List.map_cons, List.map_map, h0, List.map_congr_left htail, List.map_const',
    List.length_range, clearStream]

theorem clearFrame_eq : clearFrame = [(0, 0xFF)] := rfl

theorem gramStream_clearFrame : gramStream clearFrame = clearStream := by
  have hread := read_patchTrigger Memory.zeroed_wf
  exact gramStream_eq_clearStream (hread 0) fun a h0 _ => (hread a).trans (if_neg h0.ne')

/-- An all-zero canvas leaves the trigger byte alone in the buffer. -/
theorem gramStream_transformed_of_dark {c : Canvas} (h : ∀ g x, g < 6 → x < 256 → canvasRead c g x = 0x00) :
    gramStream (transformed c) = clearStream := by
  refine gramStream_eq_clearStream (read_transformed c (by decide)) fun a h0 ha => ?_
  rw [read_transformed c ha, gather_of_pos c h0 ha]
  split
  · exact h _ _ (by omega) (Nat.div_lt_of_lt_mul ha)
  · rfl

end Sys2Proof.Machine
end

section
/-! PROOFS. Whole states of a transaction that begins with CS_N high: inside the assertion, and behind it
(41_protocol_engine.md R131 to R138). -/

namespace Sys2Proof.Machine

open Sys2Proof.Claims

/-- `n` writes of the transaction `natural` behind its start in `s`, with the bytes `out` shifted out and SCK left at
`l`. -/
def asserted (l : Level) (n : Nat) (natural out : List Byte) (s : State) : State :=
  { s with
    transport := s.transport.drop n, draws := s.draws + n, sck := l, mosi := Config.mosiLevel (s.draws + n - 1)
    trace := s.trace ++ .csN .low :: out.map (fun n => .tx (rom n)), csN := .low, operands := natural }

/-- Between two transactions, `n` writes that returned behind `s`, with the events `added` in TRACE. -/
def delivered (n : Nat) (added : List Event) (s : State) : State :=
  { afterWrites n s with trace := s.trace ++ added, csN := .high, operands := [] }

theorem returnOk_delivered (n : Nat) (f : List Byte) (s : State) :
    returnOk (delivered n (frameEvents f) s) = sent n f s := rfl

theorem takeFailure_delivered (n k : Nat) (e : Token) (f : List Byte) (s : State) :
    takeFailure (.io e) (markDesync (delivered n (frameEvents (f.take k)) s)) = cut n k e f s := rfl

theorem hang_asserted (n : Nat) (natural out : List Byte) (s : State) :
    hang (asserted (Config.sckLevel (s.draws + n - 1)) n natural out s) = stuck n natural out s := rfl

/-- The codec may work before or behind the cut. -/
theorem shiftedOut_reverseAll (o : TxOutcome) (t : List Byte) :
    shiftedOut o (reverseAll t) = reverseAll (shiftedOut o t) := by
  cases o with
  | ok | never => rfl
  | fail k e => exact List.map_take.symm

theorem map_tx_reverseAll (t : List Byte) : (reverseAll t).map Event.tx = t.map fun n => .tx (rom n) := List.map_map ..

/-- The first write of a transaction. -/
theorem tx_beginTransaction {s : State} (hcs : s.csN = .high) (natural t : List Byte) :
    tx (reverseAll t) (beginTransaction natural s) =
      asserted (sckAfter (outcomeAt s 0) s.draws) 1 natural (shiftedOut (outcomeAt s 0) t) s := by
  have hout : nextOutcome (beginTransaction natural s) = outcomeAt s 0 := nextOutcome_eq _
  rw [tx, hout, shiftedOut_reverseAll, map_tx_reverseAll, beginTransaction, driveCsN, hcs, edge_high_low]
  simp [asserted]

/-- The second write of a transaction whose first returned. -/
theorem tx_asserted (l : Level) (natural out t : List Byte) (s : State) :
    tx (reverseAll t) (asserted l 1 natural out s) = asserted (sckAfter (outcomeAt s 1) (s.draws + 1)) 2 natural
      (out ++ shiftedOut (outcomeAt s 1) t) s := by
  have hout : nextOutcome (asserted l 1 natural out s) = outcomeAt s 1 := by simp [nextOutcome, outcomeAt, asserted]
  rw [tx, hout, shiftedOut_reverseAll, map_tx_reverseAll]
  simp [asserted, -List.drop_one]

theorem endTransaction_asserted (n : Nat) (natural out : List Byte) (s : State) :
    endTransaction (asserted .high n natural out s) = delivered n (frameEvents out) s := by
  rw [endTransaction, driveCsN, asserted, edge_low_high, delivered, frameEvents, afterWrites]
  simp

/-! ### SEND_COMMAND -/

section
variable {s : State} {op : Byte} {payload : List Byte}

theorem sendCommand_of_ok (hcs : s.csN = .high) (h : outcomeAt s 0 = .ok) :
    sendCommand op payload s = .goes (delivered 1 (frameEvents (op :: payload)) s) := by
  rw [sendCommand_ok h, writing, tx_beginTransaction hcs, h, sckAfter, shiftedOut_ok, endTransaction_asserted]

theorem sendCommand_of_fail (hcs : s.csN = .high) {k : Nat} {e : Token} (h : outcomeAt s 0 = .fail k e) :
    sendCommand op payload s =
      .raised (.io e) (markDesync (delivered 1 (frameEvents ((op :: payload).take k)) s)) := by
  rw [sendCommand_fail h, writing, tx_beginTransaction hcs, h, sckAfter, shiftedOut_fail, endTransaction_asserted]

theorem sendCommand_of_never (hcs : s.csN = .high) (h : outcomeAt s 0 = .never) :
    sendCommand op payload s = .hung (asserted (Config.sckLevel s.draws) 1 (op :: payload) [] s) := by
  rw [sendCommand_never h, writing, tx_beginTransaction hcs, h, sckAfter, shiftedOut_never]

end

/-- Settles O6: one write that returns ok delivers the frame whole. -/
theorem framesAreSent : Obligations.FramesAreSent := by
  intro i f s hf hcs h
  obtain ⟨op, payload, rfl⟩ := frameOf_cons hf
  rw [exec_of_frameOf hf, sendCommand_of_ok hcs h, settle, returnOk_delivered]

/-- Settles O7: the codec keeps positions, so the cut of the transport bytes is the cut of the frame. -/
theorem failedFrameIsCut : Obligations.FailedFrameIsCut := by
  intro i f s k e hf hcs h _
  obtain ⟨op, payload, rfl⟩ := frameOf_cons hf
  rw [exec_of_frameOf hf, sendCommand_of_fail hcs h, settle, takeFailure_delivered]

/-- Settles O8: a hang is outside the chip-select discipline, so the assertion stays open. -/
theorem neverReturningWriteHangs : Obligations.NeverReturningWriteHangs := by
  intro i f s hf hcs h
  obtain ⟨op, payload, rfl⟩ := frameOf_cons hf
  rw [exec_of_frameOf hf, sendCommand_of_never hcs h, settle, ← hang_asserted, Nat.add_sub_cancel]

/-! ### WRITE_GRAM -/

section
variable {s : State} {buf : List Byte} {xs ys : Byte}

theorem writingHeader_eq (hcs : s.csN = .high) : writingHeader buf xs ys s =
    asserted (sckAfter (outcomeAt s 0) s.draws) 1 (writeGramHeader xs ys ++ buf)
      (shiftedOut (outcomeAt s 0) (writeGramHeader xs ys)) s := tx_beginTransaction hcs _ _

theorem writeGram_of_ok (hb : buf.length = gramBytes) (hcs : s.csN = .high) (h0 : outcomeAt s 0 = .ok)
    (h1 : outcomeAt s 1 = .ok) :
    writeGram buf xs ys s = .goes (delivered 2 (frameEvents (writeGramHeader xs ys ++ buf)) s) := by
  rw [writeGram_ok hb h0 h1, writingHeader_eq hcs, tx_asserted, h0, h1, shiftedOut_ok, shiftedOut_ok, sckAfter,
    endTransaction_asserted]

theorem writeGram_of_header_fail (hb : buf.length = gramBytes) (hcs : s.csN = .high) {k : Nat} {e : Token}
    (h0 : outcomeAt s 0 = .fail k e) : writeGram buf xs ys s =
      .raised (.io e) (markDesync (delivered 1 (frameEvents ((writeGramHeader xs ys).take k)) s)) := by
  rw [writeGram_header_fail hb h0, writingHeader_eq hcs, h0, shiftedOut_fail, sckAfter, endTransaction_asserted]

theorem writeGram_of_payload_fail (hb : buf.length = gramBytes) (hcs : s.csN = .high) {k : Nat} {e : Token}
    (h0 : outcomeAt s 0 = .ok) (h1 : outcomeAt s 1 = .fail k e) : writeGram buf xs ys s =
      .raised (.io e) (markDesync (delivered 2 (frameEvents (writeGramHeader xs ys ++ buf.take k)) s)) := by
  rw [writeGram_payload_fail hb h0 h1, writingHeader_eq hcs, tx_asserted, h0, h1, shiftedOut_ok, shiftedOut_fail,
    sckAfter, endTransaction_asserted]

theorem writeGram_of_header_never (hb : buf.length = gramBytes) (hcs : s.csN = .high) (h0 : outcomeAt s 0 = .never) :
    writeGram buf xs ys s = .hung (asserted (Config.sckLevel s.draws) 1 (writeGramHeader xs ys ++ buf) [] s) := by
  rw [writeGram_header_never hb h0, writingHeader_eq hcs, h0, shiftedOut_never, sckAfter]

theorem writeGram_of_payload_never (hb : buf.length = gramBytes) (hcs : s.csN = .high) (h0 : outcomeAt s 0 = .ok)
    (h1 : outcomeAt s 1 = .never) : writeGram buf xs ys s =
      .hung (asserted (Config.sckLevel (s.draws + 1)) 2 (writeGramHeader xs ys ++ buf) (writeGramHeader xs ys) s) := by
  rw [writeGram_payload_never hb h0 h1, writingHeader_eq hcs, tx_asserted, h0, h1, shiftedOut_ok, shiftedOut_never,
    sckAfter, List.append_nil]

/-- A cut inside the header is a cut of the frame. -/
theorem take_header_append {k : Nat} (hk : k ≤ 3) :
    (writeGramHeader xs ys ++ buf).take k = (writeGramHeader xs ys).take k := List.take_append_of_le_length hk

/-- A cut inside the buffer is a cut of the frame behind its three header bytes. -/
theorem take_append_buffer (k : Nat) :
    (writeGramHeader xs ys ++ buf).take (3 + k) = writeGramHeader xs ys ++ buf.take k :=
  List.take_length_add_append (l₁ := writeGramHeader xs ys) k

/-- A failure in the header cuts the frame there, one in the buffer behind it (R138). -/
theorem settle_writeGram_fail (hb : buf.length = gramBytes) (hcs : s.csN = .high) (k : Nat) (e : Token) :
    (outcomeAt s 0 = .fail k e → k ≤ 3 →
      settle (writeGram buf xs ys s) = cut 1 k e (writeGramHeader xs ys ++ buf) s) ∧
    (outcomeAt s 0 = .ok → outcomeAt s 1 = .fail k e →
      settle (writeGram buf xs ys s) = cut 2 (3 + k) e (writeGramHeader xs ys ++ buf) s) := by
  constructor
  · intro h0 hk
    rw [writeGram_of_header_fail hb hcs h0, settle, ← take_header_append hk, takeFailure_delivered]
  · intro h0 h1
    rw [writeGram_of_payload_fail hb hcs h0 h1, settle, ← take_append_buffer, takeFailure_delivered]

end

/-- Settles O10: two writes that return ok deliver header and buffer in one assertion. -/
theorem writeGramSendsHeaderAndBuffer : Obligations.WriteGramSendsHeaderAndBuffer := by
  intro i buf xs ys s hi hb hcs h0 h1
  rw [exec_of_bufferOf hi, writeGram_of_ok hb hcs h0 h1, settle, returnOk_delivered]
  rfl

/-- Settles O11: both cuts are cuts of the whole frame, the second behind the three header bytes. -/
theorem writeGramFailureCutsTheFrame : Obligations.WriteGramFailureCutsTheFrame := by
  intro i buf xs ys s k e hi hb hcs
  obtain ⟨hheader, hpayload⟩ := settle_writeGram_fail (xs := xs) (ys := ys) hb hcs k e
  rw [exec_of_bufferOf hi]
  exact ⟨fun h0 hk => congrArg _ (hheader h0 hk), fun h0 h1 _ => congrArg _ (hpayload h0 h1)⟩

/-- Settles O12: nothing is shifted out in the first write, the header alone in the second. -/
theorem writeGramCanHang : Obligations.WriteGramCanHang := by
  intro i buf xs ys s hi hb hcs
  rw [exec_of_bufferOf hi]
  constructor
  · intro h0
    rw [writeGram_of_header_never hb hcs h0, settle, ← hang_asserted, Nat.add_sub_cancel]
    rfl
  · intro h0 h1
    rw [writeGram_of_payload_never hb hcs h0 h1, settle, ← hang_asserted]
    rfl

/-! ### SHOW and SET_BRIGHTNESS -/

/-- The frame of SHOW is the header and the gather form. -/
theorem showBytes_eq (c : Canvas) :
    writeGramHeader startCoord startCoord ++ gramStream (transformed c) = showBytes c := by
  rw [gramStream_transformed]
  rfl

/-- What SHOW sends of a buffer, whatever wrote it. -/
theorem writeOwnGram_setGram_of_ok {s : State} (hcs : s.csN = .high) (h0 : outcomeAt s 0 = .ok)
    (h1 : outcomeAt s 1 = .ok) (m : Memory) : settle (writeOwnGram (setGram m s)) =
      sent 2 (writeGramHeader startCoord startCoord ++ gramStream m) { s with gram := m } := by
  rw [writeOwnGram, writeGram_of_ok (s := setGram m s) (gramStream_length _) hcs h0 h1, settle, returnOk_delivered]
  rfl

/-- Settles O22: SHOW sends whatever buffer it has just written. -/
theorem showSendsTheTransformedCanvas : Obligations.ShowSendsTheTransformedCanvas := by
  intro c s hcs h0 h1
  refine ⟨transformed c, transformed_wf c, transformed_below c, fun a ha => read_transformed c ha, ?_⟩
  rw [exec_showFrame, writeOwnGram_setGram_of_ok hcs h0 h1, showBytes_eq]

theorem writeOwnGram_setGram_fail {s : State} (hcs : s.csN = .high) (k : Nat) (e : Token) (m : Memory) :
    (outcomeAt s 0 = .fail k e → k ≤ 3 → settle (writeOwnGram (setGram m s)) =
      cut 1 k e (writeGramHeader startCoord startCoord ++ gramStream m) { s with gram := m }) ∧
    (outcomeAt s 0 = .ok → outcomeAt s 1 = .fail k e → settle (writeOwnGram (setGram m s)) =
      cut 2 (3 + k) e (writeGramHeader startCoord startCoord ++ gramStream m) { s with gram := m }) :=
  settle_writeGram_fail (s := setGram m s) (gramStream_length _) hcs k e

/-- Settles O23: the failures of WRITE_GRAM, with the transformed canvas as buffer. -/
theorem showFailureCutsTheFrame : Obligations.ShowFailureCutsTheFrame := by
  intro c s k e hcs
  obtain ⟨hheader, hpayload⟩ := writeOwnGram_setGram_fail hcs k e (transformed c)
  refine ⟨transformed c, fun a ha => read_transformed c ha, fun h0 hk => ?_, fun h0 h1 _ => ?_⟩
  · rw [exec_showFrame, hheader h0 hk, showBytes_eq]
  · rw [exec_showFrame, hpayload h0 h1, showBytes_eq]

/-- Settles O24: SEND_COMMAND from the state with the masked value stored. -/
theorem setBrightnessStoresAndSends : Obligations.SetBrightnessStoresAndSends := by
  intro v s hcs h
  refine ⟨maskBrightness v, BitVec.toNat_ofNat .., ?_⟩
  rw [Body.setBrightness.exec_eq, sendBrightness, sendCommand_of_ok (s := setBrightness (maskBrightness v) s) hcs h,
    settle, returnOk_delivered, brightnessPayload_eq]
  rfl

/-- Settles O25: the cut of SEND_COMMAND, from the state with the masked value stored. -/
theorem setBrightnessSurvivesAFailedSend : Obligations.SetBrightnessSurvivesAFailedSend := by
  intro v s k e hcs h _
  refine ⟨maskBrightness v, BitVec.toNat_ofNat .., ?_⟩
  rw [Body.setBrightness.exec_eq, sendBrightness, sendCommand_of_fail (s := setBrightness (maskBrightness v) s) hcs h,
    settle, takeFailure_delivered, brightnessPayload_eq]
  rfl

/-! ### DEINIT -/

/-- Settles O33: SEND_COMMAND from the state with the filament off, then Standby. -/
theorem deinitFromActiveEntersStandby : Obligations.DeinitFromActiveEntersStandby := by
  intro s hl hcs h
  rw [Body.deinit.exec_eq, deinitSequence_of_active hl,
    sendCommand_of_ok (s := setSeq .deStandby (filamentOff s)) hcs h]
  rfl

/-- Settles O35: the failure of SEND_COMMAND stops DEINIT before it writes LIFECYCLE. -/
theorem failedDeinitStaysActive : Obligations.FailedDeinitStaysActive := by
  intro s k e hl hcs h _
  refine ⟨?_, hl⟩
  rw [Body.deinit.exec_eq, deinitSequence_of_active hl,
    sendCommand_of_fail (s := setSeq .deStandby (filamentOff s)) hcs h]
  rfl

end Sys2Proof.Machine
end

section
/-! PROOFS. INIT with a transport that completes its eight writes: its exact trace and whole next state
(43_init_sequencer.md R170 to R185). -/

namespace Sys2Proof.Machine

open Sys2Proof.Claims

/-! ### Steps behind writes that were delivered -/

section
variable {n : Nat} {ev : List Event} {s : State}

theorem outcomeAt_delivered (m : Nat) : outcomeAt (delivered n ev s) m = outcomeAt s (n + m) := by
  simp [outcomeAt, delivered, afterWrites, Nat.add_assoc]

/-- One more frame of `m + 1` writes. -/
theorem delivered_delivered (m : Nat) (ev' : List Event) :
    delivered (m + 1) ev' (delivered n ev s) = delivered (n + (m + 1)) (ev ++ ev') s := by
  simp [delivered, afterWrites, Nat.add_assoc]

theorem wait_delivered (d : Nat) : wait d (delivered n ev s) = delivered n (ev ++ [.wait d]) s := by
  simp [delivered, wait]

theorem setSeq_delivered (q : Seq) : setSeq q (delivered n ev s) = delivered n ev (setSeq q s) := rfl

theorem setLifecycle_delivered (l : Lifecycle) :
    setLifecycle l (delivered n ev s) = delivered n ev (setLifecycle l s) := rfl

theorem setGram_delivered (m : Memory) : setGram m (delivered n ev s) = delivered n ev (setGram m s) := rfl

theorem sendCommand_delivered {op : Byte} {payload : List Byte} (q : Seq) (h : outcomeAt s n = .ok) :
    sendCommand op payload (setSeq q (delivered n ev s)) =
      .goes (delivered (n + 1) (ev ++ frameEvents (op :: payload)) (setSeq q s)) := by
  have hfirst : outcomeAt (delivered n ev (setSeq q s)) 0 = .ok := (outcomeAt_delivered 0).trans h
  rw [setSeq_delivered, sendCommand_of_ok rfl hfirst, delivered_delivered]

theorem writeOwnGram_delivered (h0 : outcomeAt s n = .ok) (h1 : outcomeAt s (n + 1) = .ok) :
    writeOwnGram (delivered n ev s) =
      .goes (delivered (n + 2) (ev ++ frameEvents (writeGramHeader startCoord startCoord ++ gramStream s.gram)) s) := by
  have hheader : outcomeAt (delivered n ev s) 0 = .ok := (outcomeAt_delivered 0).trans h0
  have hpayload : outcomeAt (delivered n ev s) 1 = .ok := (outcomeAt_delivered 1).trans h1
  rw [writeOwnGram, writeGram_of_ok (gramStream_length _) rfl hheader hpayload, delivered_delivered]
  rfl

theorem initT3a_delivered (h : outcomeAt s n = .ok) : initT3a (delivered n ev s) =
    .goes (delivered (n + 1) (ev ++ frameEvents (Command.vfdMode.op :: vfdModeCfg)) (setSeq .t3aVfdMode s)) :=
  sendCommand_delivered _ h

theorem initT3b_delivered (h : outcomeAt s n = .ok) : initT3b (delivered n ev s) =
    .goes (delivered (n + 1) (ev ++ frameEvents (Command.brightness.op :: brightnessPayload s.brightness))
      (setSeq .t3bBrightness s)) := sendCommand_delivered .t3bBrightness h

theorem initT3c_delivered (h0 : outcomeAt s n = .ok) (h1 : outcomeAt s (n + 1) = .ok) : initT3c (delivered n ev s) =
    .goes (delivered (n + 2) (ev ++ frameEvents (writeGramHeader startCoord startCoord ++ clearStream) ++ [.wait 20])
      (setSeq .t3cSettle (setGram clearFrame s))) := by
  rw [initT3c, setSeq_delivered, setGram_delivered,
    writeOwnGram_delivered (s := setGram clearFrame (setSeq .t3cClear s)) h0 h1, setGram_gram, gramStream_clearFrame,
    andThen_goes, setSeq_delivered, wait_delivered]
  rfl

theorem initT3d_delivered (h : outcomeAt s n = .ok) : initT3d (delivered n ev s) =
    .goes (delivered (n + 1) (ev ++ frameEvents [Command.displayOffset.op, 0x00, 0x38]) (setSeq .t3dOffset s)) :=
  sendCommand_delivered _ h

theorem initT3e_delivered (h : outcomeAt s n = .ok) : initT3e (delivered n ev s) =
    .goes (delivered (n + 1) (ev ++ frameEvents [Command.displayMode.op, 0x00]) (setSeq .t3eMode s)) :=
  sendCommand_delivered _ h

theorem initT3f_delivered (h : outcomeAt s n = .ok) : initT3f (delivered n ev s) =
    .goes (delivered (n + 1) (ev ++ frameEvents [Command.osc.op, Config.oscCfg])
      (setLifecycle .ready (setSeq .t3fOsc s))) := by
  rw [initT3f, sendCommand_delivered _ h, andThen_goes, setLifecycle_delivered]

end

@[simp] theorem outcomeAt_setSeq (q : Seq) (s : State) (n : Nat) : outcomeAt (setSeq q s) n = outcomeAt s n := rfl

@[simp] theorem outcomeAt_setLifecycle (l : Lifecycle) (s : State) (n : Nat) :
    outcomeAt (setLifecycle l s) n = outcomeAt s n := rfl

@[simp] theorem outcomeAt_setGram (m : Memory) (s : State) (n : Nat) : outcomeAt (setGram m s) n = outcomeAt s n := rfl

theorem initT2_of_ok {s : State} (hcs : s.csN = .high) (h : outcomeAt s 0 = .ok) : initT2 s =
    .goes (delivered 1 (frameEvents [Command.reset.op] ++ [.wait 50])
      (setLifecycle .configuring (setSeq .t2Settle s))) := by
  rw [initT2, sendCommand_of_ok (s := setSeq .t2SwReset s) hcs h, andThen_goes, setSeq_delivered, wait_delivered,
    setLifecycle_delivered]
  rfl

/-! ### The whole sequence -/

/-- The events of INIT between T1 and T4 (R185). -/
def initWireEvents (brightness : BitVec 16) : List Event :=
  frameEvents [Command.reset.op] ++ [.wait 50] ++ frameEvents (Command.vfdMode.op :: vfdModeCfg)
    ++ frameEvents (Command.brightness.op :: brightnessPayload brightness)
    ++ frameEvents (writeGramHeader startCoord startCoord ++ clearStream) ++ [.wait 20]
    ++ frameEvents [Command.displayOffset.op, 0x00, 0x38] ++ frameEvents [Command.displayMode.op, 0x00]
    ++ frameEvents [Command.osc.op, Config.oscCfg]

/-- The registers of INIT before T4. -/
def initReady (s : State) : State := setLifecycle .ready (setSeq .t3fOsc (setGram clearFrame (initT1 s)))

theorem initSequence_of_ok {s : State} (hcs : s.csN = .high) (hok : ∀ n, n < 8 → outcomeAt s n = .ok) :
    initSequence s = .goes (initT4 (delivered 8 (initWireEvents s.brightness) (initReady s))) := by
  have h : ∀ n, n < 8 → outcomeAt (initT1 s) n = .ok := hok
  simp only [initSequence, initT2_of_ok (s := initT1 s) hcs (h 0 (by decide)), andThen_goes, initT3a_delivered,
    initT3b_delivered, initT3c_delivered, initT3d_delivered, initT3e_delivered, initT3f_delivered, outcomeAt_setSeq,
    outcomeAt_setLifecycle, outcomeAt_setGram, Nat.reduceAdd, h, Nat.reduceLT]
  rfl

theorem vfdModeCfg_eq : vfdModeCfg = [Config.vfdModeByte 0, Config.vfdModeByte 1, Config.vfdModeByte 2,
    Config.vfdModeByte 3, Config.vfdModeByte 4, Config.vfdModeByte 5, Config.vfdModeByte 6] := rfl

theorem initEvents_eq (b : BitVec 16) (l : Level) : initEvents b l =
    [.rstN .low, .wait 10, .rstN .high, .wait 50] ++ initWireEvents b ++ edge .filEn l .high := by
  have hclear : [Command.writeGram.op, 0x00, 0x00, 0xFF] ++ List.replicate 4095 (0x00 : Byte) =
      writeGramHeader startCoord startCoord ++ clearStream := rfl
  unfold initEvents
  rw [hclear, initWireEvents, vfdModeCfg_eq, brightnessPayload_eq]
  simp only [List.append_assoc]
  cases l <;> rfl

/-- The whole next state of an INIT whose eight writes return. -/
theorem exec_init_of_ok {s : State} (hl : s.lifecycle ≠ .standby) (hcs : s.csN = .high) (hrst : s.rstN = .high)
    (hok : ∀ n, n < 8 → outcomeAt s n = .ok) : exec .init s = .next { afterWrites 8 s with
      lifecycle := .active, seq := .idle, status := .ok, busy := false, operands := [], desync := false
      interrupted := false, gram := clearFrame, csN := .high, rstN := .high, filEn := .high
      trace := s.trace ++ initEvents s.brightness s.filEn } := by
  have htrace : s.trace ++ initEvents s.brightness s.filEn =
      (initT1 s).trace ++ initWireEvents s.brightness ++ edge .filEn s.filEn .high := by
    rw [initEvents_eq, initT1_trace hrst]
    simp only [List.append_assoc]
  rw [exec_init hl, initSequence_of_ok hcs hok, htrace]
  rfl

theorem frameEvents_length (f : List Byte) : (frameEvents f).length = f.length + 2 := by
  simp [frameEvents]

theorem initWireEvents_length (b : BitVec 16) : (initWireEvents b).length = 4134 := by
  simp only [initWireEvents, List.length_append, frameEvents_length, writeGramHeader, clearStream, List.length_cons,
    List.length_nil, List.length_replicate, vfdModeCfg_eq, brightnessPayload_eq]

/-- Settles O26: the eight writes one after the other, then the lengths of the seven frames, six other events and the filament edge. -/
theorem initReachesActive : Obligations.InitReachesActive := by
  refine ⟨fun s hl hcs hrst hok => ?_, fun b => ?_, fun b => ?_⟩
  · rw [exec_init_of_ok hl hcs hrst hok, clearFrame_eq]
  · rw [initEvents_eq, List.length_append, List.length_append, initWireEvents_length]
    rfl
  · rw [initEvents_eq, List.length_append, List.length_append, initWireEvents_length]
    rfl

/-- The fourth frame of INIT among its events. -/
theorem initEvents_split (b : BitVec 16) (l : Level) : ∃ before after, initEvents b l =
    before ++ frameEvents (writeGramHeader startCoord startCoord ++ clearStream) ++ after := by
  refine ⟨[.rstN .low, .wait 10, .rstN .high, .wait 50] ++ frameEvents [Command.reset.op] ++ [.wait 50]
      ++ frameEvents (Command.vfdMode.op :: vfdModeCfg)
      ++ frameEvents (Command.brightness.op :: brightnessPayload b),
    [.wait 20] ++ frameEvents [Command.displayOffset.op, 0x00, 0x38] ++ frameEvents [Command.displayMode.op, 0x00]
      ++ frameEvents [Command.osc.op, Config.oscCfg] ++ edge .filEn l .high, ?_⟩
  simp only [initEvents_eq, initWireEvents, List.append_assoc]

/-- Settles O20: both buffers are the trigger byte and zeros, and the fourth frame of INIT sends one. -/
theorem allZeroCanvasGivesTheClearBuffer : Obligations.AllZeroCanvasGivesTheClearBuffer := by
  intro c s hdark
  obtain ⟨t, ht, hgram⟩ := exec_transform_gram c s
  refine ⟨⟨t, ht, by rw [hgram, gramStream_transformed_of_dark hdark, clearStream]⟩, fun hl hcs hrst hok => ?_⟩
  obtain ⟨before, after, hsplit⟩ := initEvents_split s.brightness s.filEn
  refine ⟨_, before, after, exec_init_of_ok hl hcs hrst hok, gramStream_clearFrame, ?_⟩
  rw [hsplit, gramStream_clearFrame]
  simp only [List.append_assoc]
  rfl

/-! ### Two INITs -/

/-- The filament edge is the last event of INIT, and the only one that FIL_EN decides. -/
theorem initEvents_filEn (b : BitVec 16) (l : Level) : initEvents b l = initEvents b .high ++ edge .filEn l .high := by
  rw [initEvents_eq, initEvents_eq, edge_self, List.append_nil]

/-- Settles O32: the second INIT begins where the first left the pins, and finds the filament on. -/
theorem reinitialisationIsNotAnError : Obligations.ReinitialisationIsNotAnError := by
  intro s hl hcs hrst hok
  have hfirst := exec_init_of_ok hl hcs hrst fun n hn => hok n (by omega)
  have hsecond : ∀ n, n < 8 → outcomeAt (afterWrites 8 s) n = .ok := fun n hn => by
    rw [← hok (8 + n) (by omega)]
    simp [outcomeAt, afterWrites, Nat.add_assoc]
  refine ⟨_, _, initEvents s.brightness .high, hfirst, exec_init_of_ok nofun rfl rfl hsecond, rfl, rfl, rfl, rfl, rfl,
    rfl, rfl, ?_⟩
  show s.trace ++ initEvents s.brightness s.filEn = _
  rw [initEvents_filEn]
  cases s.filEn <;> simp

/-! ### What the receiver gets of the frames -/

/-- Inside an assertion the receiver appends the natural bytes. -/
theorem framesFrom_tx (got bytes : List Byte) (rest : List Event) :
    framesFrom (some got) (bytes.map (fun n => .tx (rom n)) ++ rest) = framesFrom (some (got ++ bytes)) rest := by
  induction bytes generalizing got with
  | nil => rw [List.map_nil, List.nil_append, List.append_nil]
  | cons b bytes ih =>
    rw [List.map_cons, List.cons_append, framesFrom, wireByte_rom, ih, List.append_assoc, List.singleton_append]

theorem framesOf_frameEvents_append (f : List Byte) (rest : List Event) :
    framesOf (frameEvents f ++ rest) = f :: framesOf rest := by
  rw [frameEvents, List.append_assoc, List.append_assoc, List.singleton_append, framesOf, framesFrom, framesFrom_tx]
  rfl

@[simp] theorem framesOf_frameEvents (f : List Byte) : framesOf (frameEvents f) = [f] := by
  rw [← List.append_nil (frameEvents f), framesOf_frameEvents_append]
  rfl

theorem framesOf_wait (d : Nat) (rest : List Event) : framesOf (.wait d :: rest) = framesOf rest := rfl

theorem framesOf_edge_filEn_append (was l : Level) (rest : List Event) :
    framesOf (edge .filEn was l ++ rest) = framesOf rest := by
  unfold edge
  split <;> rfl

theorem framesOf_edge_filEn (was l : Level) : framesOf (edge .filEn was l) = [] := by
  rw [← List.append_nil (edge _ _ _), framesOf_edge_filEn_append]
  rfl

theorem waitedMs_append (a b : List Event) : waitedMs (a ++ b) = waitedMs a + waitedMs b := by
  rw [waitedMs, List.map_append, List.sum_append, ← waitedMs, ← waitedMs]

theorem waitedMs_frameEvents (f : List Byte) : waitedMs (frameEvents f) = 0 := by
  have hbytes : waitedMs (f.map fun n => .tx (rom n)) = 0 := by
    induction f with
    | nil => rfl
    | cons b f ih => exact (Nat.zero_add _).trans ih
  rw [frameEvents, waitedMs_append, waitedMs_append, hbytes]
  rfl

theorem waitedMs_edge_filEn (was l : Level) : waitedMs (edge .filEn was l) = 0 := by
  unfold edge
  split <;> rfl

theorem framesOf_initEvents (b : BitVec 16) (l : Level) : framesOf (initEvents b l) = initFrames b := by
  rw [initEvents_eq, initWireEvents, vfdModeCfg_eq, brightnessPayload_eq]
  simp only [List.append_assoc, List.cons_append, List.nil_append]
  show framesOf (frameEvents _ ++ _) = _
  simp only [framesOf_frameEvents_append, framesOf_wait, framesOf_edge_filEn]
  rfl

theorem waitedMs_initEvents (b : BitVec 16) (l : Level) : waitedMs (initEvents b l) = 130 := by
  rw [initEvents_eq, initWireEvents]
  simp only [waitedMs_append, waitedMs_frameEvents, waitedMs_edge_filEn]
  rfl

/-- Settles O27: the receiver takes the frames apart at the chip-select edges; only the waits count. -/
theorem initDeliversSevenFrames : Obligations.InitDeliversSevenFrames := by
  intro s hl hcs hrst hok
  exact ⟨_, _, exec_init_of_ok hl hcs hrst hok, rfl, framesOf_initEvents .., waitedMs_initEvents ..⟩

/-- Settles O9: in each whole next state the added events are one frame, but for a filament edge. -/
theorem receiverGetsTheNaturalFrame : Obligations.ReceiverGetsTheNaturalFrame := by
  refine ⟨fun i f s hf hcs h => ?_, fun i buf xs ys s hi hb hcs h0 h1 => ?_, fun c s hcs h0 h1 => ?_,
    fun v s hcs h => ?_, fun s hl hcs h => ?_⟩
  · exact ⟨_, _, framesAreSent i f s hf hcs h, rfl, framesOf_frameEvents _⟩
  · exact ⟨_, _, writeGramSendsHeaderAndBuffer i buf xs ys s hi hb hcs h0 h1, rfl, framesOf_frameEvents _⟩
  · obtain ⟨m, -, -, -, hexec⟩ := showSendsTheTransformedCanvas c s hcs h0 h1
    exact ⟨_, _, hexec, rfl, framesOf_frameEvents _⟩
  · obtain ⟨w, hw, hexec⟩ := setBrightnessStoresAndSends v s hcs h
    exact ⟨_, _, w, hw, hexec, rfl, framesOf_frameEvents _⟩
  · have htrace := deinitFromActiveEntersStandby s hl hcs h
    refine ⟨_, edge .filEn s.filEn .low ++ frameEvents [Command.enterStandby.op], htrace, ?_, ?_⟩
    · rw [← List.append_assoc, ← filamentOff_trace]
      rfl
    · rw [framesOf_edge_filEn_append, framesOf_frameEvents]

/-- Settles O36: the whole next states of the five cases report OK. -/
theorem whatIsNotAFailure : Obligations.WhatIsNotAFailure := by
  intro s hcs hrst hok
  have h0 := hok 0 (by decide)
  have h1 := hok 1 (by decide)
  refine ⟨fun v => ?_, fun hl => ?_, fun hl => ?_, fun op payload => ?_, fun buf xs ys hb => ?_⟩
  · obtain ⟨w, hw, hexec⟩ := setBrightnessStoresAndSends v s hcs h0
    exact ⟨_, hexec, rfl, rfl, hw⟩
  · exact ⟨_, exec_init_of_ok (by rw [hl]; decide) hcs hrst hok, rfl, rfl⟩
  · exact ⟨_, deinitElsewhereOnlyTurnsTheFilamentOff s hl, rfl, rfl⟩
  · exact ⟨_, framesAreSent (.sendCommand op payload) _ s rfl hcs h0, rfl, rfl⟩
  · exact ⟨_, writeGramSendsHeaderAndBuffer (.writeGram buf xs ys) buf xs ys s rfl hb hcs h0 h1, rfl, rfl⟩

end Sys2Proof.Machine
end

section
/-! PROOFS. Everything an instruction can come to, and what it leaves unchanged: who writes which register and pin
(10_state.md R37), what every failure leaves (60_exceptions.md R250, R251), and the growth of TRACE. -/

namespace Sys2Proof.Machine

open Sys2Proof.Claims

/-- What instruction `i` leaves of `s` in `u`, however far it came. -/
structure Frame (i : Instr) (s u : State) : Prop where
  lifecycle : i ≠ .init → i ≠ .deinit → u.lifecycle = s.lifecycle
  filEn : i ≠ .init → i ≠ .deinit → u.filEn = s.filEn
  brightness : (∀ v, i ≠ .setBrightness v) → u.brightness = s.brightness
  result : (∀ b, i ≠ .reverse b) → (∀ bytes, i ≠ .reverseAll bytes) → u.result = s.result
  rstN : i ≠ .init → u.rstN = s.rstN
  desync : i ≠ .init → s.desync = true → u.desync = true
  interrupted : i ≠ .init → u.interrupted = s.interrupted
  mended : i = .init → u.interrupted = false
  gram : rewritesGram i = false → u.gram = s.gram
  gramBelow : Memory.below 4096 s.gram = true → Memory.below 4096 u.gram = true
  config : u.config = s.config
  inputs : u.inputs = s.inputs
  trace : s.trace <+: u.trace

theorem Frame.refl {i : Instr} (hi : i ≠ .init) (s : State) : Frame i s s := by
  constructor
  case desync => exact fun _ => id
  case mended => exact (absurd · hi)
  case gramBelow => exact id
  case trace => exact List.prefix_rfl
  all_goals intros; rfl

theorem Frame.quiet {i : Instr} {s u v : State} (h : Frame i s u) (hq : Quiet u v) : Frame i s v where
  lifecycle hi hd := hq.lifecycle.trans (h.lifecycle hi hd)
  filEn hi hd := hq.filEn.trans (h.filEn hi hd)
  brightness hi := hq.brightness.trans (h.brightness hi)
  result hr hra := hq.result.trans (h.result hr hra)
  rstN hi := hq.rstN.trans (h.rstN hi)
  desync hi hs := hq.desync (h.desync hi hs)
  interrupted hi := hq.interrupted.trans (h.interrupted hi)
  mended hi := hq.interrupted.trans (h.mended hi)
  gram hi := hq.gram.trans (h.gram hi)
  gramBelow hb := by rw [hq.gram]; exact h.gramBelow hb
  config := hq.config.trans h.config
  inputs := hq.inputs.trans h.inputs
  trace := h.trace.trans hq.trace

theorem Frame.setResult {i : Instr} (h : (∃ b, i = .reverse b) ∨ ∃ bytes, i = .reverseAll bytes) (r : List Byte)
    (s : State) : Frame i s (setResult r s) := by
  rcases h with ⟨b, rfl⟩ | ⟨bytes, rfl⟩
  · exact { Frame.refl (i := .reverse b) nofun s with result := fun hr _ => absurd rfl (hr b) }
  · exact { Frame.refl (i := .reverseAll bytes) nofun s with result := fun _ hra => absurd rfl (hra bytes) }

theorem Frame.setGram {i : Instr} (hi : i ≠ .init) (hg : rewritesGram i = true) {m : Memory} (hm : Sound m)
    (s : State) : Frame i s (setGram m s) :=
  { Frame.refl hi s with gram := fun h => absurd (hg.symm.trans h) nofun, gramBelow := fun _ => hm.2 }

theorem Frame.filamentOff (q : Seq) (s : State) : Frame .deinit s (setSeq q (filamentOff s)) :=
  { Frame.refl (i := .deinit) nofun s with
    lifecycle := fun _ hd => absurd rfl hd, filEn := fun _ hd => absurd rfl hd, trace := List.prefix_append .. }

/-- The writes of DEINIT behind its command. -/
theorem Frame.standby {s u : State} (h : Frame .deinit s u) :
    Frame .deinit s (setSeq .idle (setLifecycle .standby u)) :=
  { h with lifecycle := fun _ hd => absurd rfl hd }

theorem InitAt.frame {s u : State} {l : Lifecycle} (h : InitAt s l u) : Frame .init s u where
  lifecycle hi := absurd rfl hi
  filEn hi := absurd rfl hi
  brightness _ := h.brightness
  result _ _ := h.result
  rstN hi := absurd rfl hi
  desync hi := absurd rfl hi
  interrupted hi := absurd rfl hi
  mended _ := h.interrupted
  gram := nofun
  gramBelow hb := by
    rcases h.gram with hg | hg
    · rw [hg]; exact hb
    · rw [hg]; exact clearFrame_sound.2
  config := h.config
  inputs := h.inputs
  trace := by
    refine List.IsPrefix.trans ?_ h.trace
    simp only [initT1, clearDesync_trace, setLifecycle_trace, wait_trace, setSeq_trace, driveRstN_trace,
      List.append_assoc]
    exact List.prefix_append ..

theorem Frame.initT4 {s u : State} (h : Frame .init s u) : Frame .init s (initT4 u) :=
  { h with
    lifecycle := fun hi => absurd rfl hi, filEn := fun hi => absurd rfl hi
    trace := h.trace.trans (List.prefix_append ..) }

/-! ### Everything an instruction can come to -/

/-- The bus and the operands in flight are as they were. -/
structure SameBus (s u : State) : Prop where
  csN : u.csN = s.csN
  sck : u.sck = s.sck
  mosi : u.mosi = s.mosi
  operands : u.operands = s.operands

/-- Instruction `i` goes on to its return in `u`. -/
structure Returns (i : Instr) (s u : State) : Prop where
  frame : Frame i s u
  wrote : ∃ n, Wrote s n u ∧ (n = 0 → SameBus s u)
  desync : u.desync = true → i ≠ .init ∧ s.desync = true
  seq : i ≠ .init → i ≠ .deinit → u.seq = s.seq

/-- Instruction `i` has raised an IO failure in `u`. -/
structure FailsIo (i : Instr) (s : State) (e : Token) (u : State) : Prop where
  frame : Frame i s u
  broke : ∃ m k, Broke s m (.fail k e) u
  closed : Closed u
  desync : u.desync = true
  rstN : s.rstN = .high → u.rstN = .high
  lifecycle : i ≠ .init → u.lifecycle = s.lifecycle
  filEn : i ≠ .deinit → u.filEn = s.filEn

/-- Instruction `i` has raised a failure: of the transport, or of the shape check, which changes nothing. -/
def Fails (i : Instr) (s : State) (f : Failure) (u : State) : Prop :=
  (∃ e, f = .io e ∧ FailsIo i s e u) ∨ (f = .protocol ∧ u = s ∧ i ≠ .init ∧ drivesBus i = true)

/-- Instruction `i` hangs in `u`. -/
structure Hangs (i : Instr) (s u : State) : Prop where
  frame : Frame i s u
  broke : ∃ m, Broke s m .never u
  status : u.status = s.status
  desync : u.desync = true → i ≠ .init ∧ s.desync = true
  seq : i ≠ .init → i ≠ .deinit → u.seq = s.seq

/-- The state `v` in which an instruction other than INIT begins its transaction. -/
structure Prepared (i : Instr) (s v : State) : Prop where
  notInit : i ≠ .init
  frame : Frame i s v
  wrote : Wrote s 0 v
  status : v.status = s.status
  desync : v.desync = s.desync
  lifecycle : v.lifecycle = s.lifecycle
  seq : i ≠ .deinit → v.seq = s.seq

theorem Prepared.refl {i : Instr} (hi : i ≠ .init) (s : State) : Prepared i s s :=
  ⟨hi, .refl hi s, .zero rfl rfl, rfl, rfl, rfl, fun _ => rfl⟩

/-- Whatever the transport does, an instruction that makes its writes in one transaction. -/
theorem Prepared.ends {i : Instr} {s v : State} {n : Nat} {p : Progress} (h : Prepared i s v) (hn : 0 < n)
    (hp : p.Ends (Completed v n) (Failed v n) (Hung v n)) : p.Ends (Returns i s) (Fails i s) (Hangs i s) := by
  refine hp.mono (fun u hu => ?_) (fun f u hu => .inl ?_) (fun u hu => ?_)
  · refine ⟨h.frame.quiet hu.quiet, ⟨0 + n, h.wrote.trans hu.wrote, fun h0 => by omega⟩, fun hd => ?_, fun _ hi =>
      hu.quiet.seq.trans (h.seq hi)⟩
    exact ⟨h.notInit, by rw [← h.desync, ← hu.desync, hd]⟩
  · obtain ⟨m, -, k, e, hf, hbroke⟩ := hu.broke
    exact ⟨e, hf, h.frame.quiet hu.quiet, ⟨_, k, h.wrote.broke hbroke⟩, hu.closed, hu.desync,
      ((h.frame.quiet hu.quiet).rstN h.notInit).trans, fun _ => hu.quiet.lifecycle.trans h.lifecycle, fun hi =>
      (h.frame.quiet hu.quiet).filEn h.notInit hi⟩
  · obtain ⟨m, -, hbroke⟩ := hu.broke
    refine ⟨h.frame.quiet hu.quiet, ⟨_, h.wrote.broke hbroke⟩, hu.quiet.status.trans h.status, fun hd => ?_, fun _ hi =>
      hu.quiet.seq.trans (h.seq hi)⟩
    exact ⟨h.notInit, by rw [← h.desync, ← hu.desync, hd]⟩

/-- An instruction that makes no write. -/
theorem Returns.of_no_write {i : Instr} {s u : State} (hi : i ≠ .init) (hf : Frame i s u) (hw : Wrote s 0 u)
    (hbus : SameBus s u) (hd : u.desync = s.desync) (hseq : i ≠ .deinit → u.seq = s.seq) : Returns i s u :=
  ⟨hf, ⟨0, hw, fun _ => hbus⟩, fun h => ⟨hi, hd.symm.trans h⟩, fun _ => hseq⟩

theorem setGram_returns {i : Instr} (hi : i ≠ .init) (hg : rewritesGram i = true) {m : Memory} (hm : Sound m)
    (s : State) : (Progress.goes (setGram m s)).Ends (Returns i s) (Fails i s) (Hangs i s) :=
  .goes (.of_no_write hi (.setGram hi hg hm s) (.zero rfl rfl) ⟨rfl, rfl, rfl, rfl⟩ rfl fun _ => rfl)

theorem prepared_setGram {i : Instr} (hi : i ≠ .init) (hg : rewritesGram i = true) {m : Memory} (hm : Sound m)
    (s : State) : Prepared i s (setGram m s) :=
  ⟨hi, .setGram hi hg hm s, .zero rfl rfl, rfl, rfl, rfl, fun _ => rfl⟩

theorem initSequence_endsBody (s : State) :
    (initSequence s).Ends (Returns .init s) (Fails .init s) (Hangs .init s) := by
  refine (initSequence_ends s).mono ?_ ?_ ?_
  · rintro _ ⟨u, hu, rfl⟩
    refine ⟨hu.kept.frame.initT4, ⟨8, hu.wrote.congr rfl rfl, nofun⟩, fun hd => ?_, fun hi => absurd rfl hi⟩
    exact absurd (hu.desync.symm.trans hd) nofun
  · rintro f u ⟨j, k, e, hf, -, hbroke, hu, hclosed, hdesync⟩
    exact .inl ⟨e, hf, hu.frame, ⟨j, k, hbroke⟩, hclosed, hdesync, fun _ => hu.rstN, fun hi => absurd rfl hi, fun _ =>
      hu.filEn⟩
  · rintro u ⟨j, -, hbroke, hu, -, -, hdesync⟩
    exact ⟨hu.frame, ⟨j, hbroke⟩, hu.status, fun hd => absurd (hdesync.symm.trans hd) nofun, fun hi => absurd rfl hi⟩

theorem deinitSequence_endsBody (s : State) :
    (deinitSequence s).Ends (Returns .deinit s) (Fails .deinit s) (Hangs .deinit s) := by
  by_cases hl : s.lifecycle = .active
  · have hprepared : Prepared .deinit s (setSeq .deStandby (filamentOff s)) :=
      ⟨nofun, .filamentOff _ s, .zero rfl rfl, rfl, rfl, rfl, fun hd => absurd rfl hd⟩
    rw [deinitSequence_of_active hl]
    refine (hprepared.ends (by decide) (sendCommand_ends _ _ _)).andThen fun u hu => .goes ?_
    obtain ⟨n, hwrote, hbus⟩ := hu.wrote
    exact ⟨hu.frame.standby, ⟨n, hwrote.congr rfl rfl, fun hn => { hbus hn with }⟩, hu.desync, fun _ hd =>
      absurd rfl hd⟩
  · rw [deinitSequence_of_ne_active hl]
    exact .goes (.of_no_write nofun (.filamentOff _ s) (.zero rfl rfl) ⟨rfl, rfl, rfl, rfl⟩ rfl fun hd => absurd rfl hd)

theorem ne_init_of_frameOf {i : Instr} {f : List Byte} (h : frameOf i = some f) : i ≠ .init := by
  rintro rfl
  cases h

theorem ne_init_of_bufferOf {i : Instr} {b : List Byte × Byte × Byte} (h : bufferOf i = some b) : i ≠ .init := by
  rintro rfl
  cases h

theorem drivesBus_of_bufferOf {i : Instr} {b : List Byte × Byte × Byte} (h : bufferOf i = some b) :
    drivesBus i = true := by
  cases i with
  | writeGram | cmdWriteGram => rfl
  | _ => cases h

theorem Body.ends {i : Instr} {s : State} {p : Progress} (h : Body i s p) :
    p.Ends (Returns i s) (Fails i s) (Hangs i s) := by
  cases h with
  | command h => exact (Prepared.refl (ne_init_of_frameOf h) s).ends (by decide) (sendCommand_ends _ _ _)
  | @buffer _ buf xs ys _ h =>
    have hi := ne_init_of_bufferOf h
    by_cases hlen : buf.length = gramBytes
    · exact (Prepared.refl hi s).ends (by decide) (writeGram_ends hlen _ _ _)
    · rw [writeGram_shape hlen]
      exact .raised (.inr ⟨rfl, rfl, hi, drivesBus_of_bufferOf h⟩)
  | @reverse b =>
    exact .goes (.of_no_write nofun (.setResult (.inl ⟨b, rfl⟩) _ s) (.zero rfl rfl) ⟨rfl, rfl, rfl, rfl⟩ rfl fun _ =>
      rfl)
  | @reverseAll bytes =>
    exact .goes (.of_no_write nofun (.setResult (.inr ⟨bytes, rfl⟩) _ s) (.zero rfl rfl) ⟨rfl, rfl, rfl, rfl⟩ rfl
      fun _ => rfl)
  | transform => exact setGram_returns (i := .transform _) nofun rfl (transformed_sound _) s
  | showFrame =>
    exact (prepared_setGram (i := .showFrame _) nofun rfl (transformed_sound _) s).ends (by decide)
      (writeOwnGram_ends _)
  | @setBrightness v =>
    have hframe : Frame (.setBrightness v) s (Machine.setBrightness (maskBrightness v) s) :=
      { Frame.refl (i := .setBrightness v) nofun s with brightness := fun hv => absurd rfl (hv v) }
    have hprepared : Prepared (.setBrightness v) s (Machine.setBrightness (maskBrightness v) s) :=
      ⟨nofun, hframe, .zero rfl rfl, rfl, rfl, rfl, fun _ => rfl⟩
    exact hprepared.ends (by decide) (sendCommand_ends _ _ _)
  | init => exact initSequence_endsBody s
  | deinit => exact deinitSequence_endsBody s

end Sys2Proof.Machine
end

section
/-! PROOFS. The statements about every instruction, each read off what an instruction can come to (10_state.md R37,
20_memory.md R52, 60_exceptions.md R250, R251, 70_reset_and_hazards.md R282). -/

namespace Sys2Proof.Machine

open Sys2Proof.Claims

theorem Fails.frame {i : Instr} {s u : State} {f : Failure} (h : Fails i s f u) : Frame i s u := by
  rcases h with ⟨e, -, h⟩ | ⟨-, rfl, hi, -⟩
  · exact h.frame
  · exact .refl hi _

/-- Returning, failing and hanging write no register that a frame speaks of. -/
theorem Body.frame {i : Instr} {s : State} {p : Progress} (h : Body i s p) : Frame i s (settle p) := by
  cases h.ends with
  | goes hu => exact { hu.frame with }
  | raised hu => exact { hu.frame with }
  | hung hu => exact { hu.frame with }

theorem exec_frame {i : Instr} {s t : State} (h : exec i s = .next t) : Frame i s t := by
  obtain ⟨p, hp, rfl⟩ := exec_next h
  exact hp.frame

/-- Settles O48: growth of TRACE is part of every frame. -/
theorem traceOnlyGrows : Obligations.TraceOnlyGrows := fun _ _ _ h => (exec_frame h).trace

/-- Settles O44: the instructions that rewrite GRAM keep it below its 4096 addresses. -/
theorem gramFrame : Obligations.GramFrame := by
  intro i s t h
  have hframe := exec_frame h
  refine ⟨fun hi a => by rw [hframe.gram hi], fun _ hb a ha => ?_⟩
  rw [Memory.read_of_below (hframe.gramBelow hb) ha, Memory.read_of_below hb ha]

/-- Settles O59: the ghost is set by the cut, is in the frame of every instruction but INIT, and T1 clears it. -/
theorem truncatedTransactionOutlivesBlockReset : Obligations.TruncatedTransactionOutlivesBlockReset := by
  refine ⟨fun s rest hin hcs => ?_, fun s t hs h => ?_, fun s t h => (exec_frame h).mended rfl⟩
  · have hcut : leavesInterrupted (withInputs rest s) = true := by simp [leavesInterrupted, hcs]
    exact ⟨_, step_of_blockReset hin, rfl, hcut, fun hstep => absurd (hcut.symm.trans hstep.2) nofun⟩
  · obtain ⟨rest, rfl⟩ | ⟨rest, -, rfl⟩ | ⟨r, rest, i, hbusy, hin, hr, hexec⟩ := step_cases h
    · exact .inl hs
    · exact .inl (by simp [leavesInterrupted, hs])
    · by_cases hi : i = .init
      · exact .inr ⟨hbusy, r, rest, hin, hi ▸ hr⟩
      · exact .inl (((exec_frame hexec).interrupted hi).trans hs)

/-- Settles O37: an instruction that goes on, or fails the shape check, was answered ok each time; a failure and a hang
come from the last answer. -/
theorem theFailingTokenIsReturnedUnchanged : Obligations.TheFailingTokenIsReturnedUnchanged := by
  intro i s t h
  obtain ⟨p, hp, rfl⟩ := exec_next h
  cases hp.ends with
  | @goes u hu =>
    obtain ⟨n, hwrote, -⟩ := hu.wrote
    refine ⟨n, hwrote.draws, hwrote.transport, fun m hm => hwrote.ok m (by omega), fun _ => ⟨rfl, nofun⟩,
      fun m hm => ?_⟩
    rw [hwrote.ok m (by omega)]
    exact ⟨rfl, nofun⟩
  | @raised f u hu =>
    rcases hu with ⟨e, rfl, hu⟩ | ⟨rfl, rfl, -⟩
    · obtain ⟨m, k, hbroke⟩ := hu.broke
      refine ⟨m + 1, hbroke.draws, hbroke.transport, fun j hj => hbroke.ok j (by omega), nofun, fun j hj => ?_⟩
      rw [Nat.succ_injective hj, hbroke.last]
      exact ⟨rfl, rfl⟩
    · exact ⟨0, rfl, rfl, nofun, fun _ => ⟨rfl, nofun⟩, nofun⟩
  | @hung u hu =>
    obtain ⟨m, hbroke⟩ := hu.broke
    refine ⟨m + 1, hbroke.draws, hbroke.transport, fun j hj => hbroke.ok j (by omega), nofun, fun j hj => ?_⟩
    rw [Nat.succ_injective hj, hbroke.last]
    exact ⟨rfl, hu.status⟩

/-- An operation returns IO_FAILURE only by taking that failure. -/
theorem settle_eq_ioFailure {p : Progress} {e : Token} (hbusy : (settle p).busy = false)
    (hstatus : (settle p).status = .ioFailure e) : ∃ u, p = .raised (.io e) u := by
  cases p with
  | goes u => cases hstatus
  | raised f u =>
    cases f with
    | io e' =>
      cases hstatus
      exact ⟨u, rfl⟩
    | protocol => cases hstatus
  | hung u => cases hbusy

theorem Body.failsIo {i : Instr} {s u : State} {e : Token} (h : Body i s (.raised (.io e) u)) : FailsIo i s e u := by
  cases h.ends with
  | raised hu =>
    rcases hu with ⟨e', he, hu⟩ | ⟨hf, -⟩
    · cases he
      exact hu
    · cases hf

/-- Settles O38: the status comes from a raised IO failure, and those leave the bus closed and DESYNC set. -/
theorem failureEntry : Obligations.FailureEntry := by
  intro i s t e h hbusy hstatus
  obtain ⟨p, hp, rfl⟩ := exec_next h
  obtain ⟨u, rfl⟩ := settle_eq_ioFailure hbusy hstatus
  have hu := hp.failsIo
  exact ⟨hu.closed.csN, hu.desync, rfl, hu.closed.operands, hu.closed.sck, hu.rstN, hu.frame.brightness, hu.lifecycle,
    hu.filEn⟩

/-! ### Who writes DESYNC, SEQ, the bus and STATUS -/

section
variable {i : Instr} {s : State} {p : Progress}

theorem returnedIoFailure_takeFailure (e : Token) (u : State) : ReturnedIoFailure (takeFailure (.io e) u) :=
  ⟨rfl, e, rfl⟩

/-- DESYNC is set by a failing write alone, and INIT clears it (10_state.md R25). -/
theorem Body.desync_cases (h : Body i s p) (hd : (settle p).desync = true) :
    (i ≠ .init ∧ s.desync = true) ∨ ReturnedIoFailure (settle p) := by
  cases h.ends with
  | goes hu => exact .inl (hu.desync hd)
  | raised hu =>
    rcases hu with ⟨e, rfl, -⟩ | ⟨-, rfl, hi, -⟩
    · exact .inr (returnedIoFailure_takeFailure e _)
    · exact .inl ⟨hi, hd⟩
  | hung hu => exact .inl (hu.desync hd)

/-- SEQ is INIT's and DEINIT's, and any failure sets it to IDLE. -/
theorem Body.seq_cases (h : Body i s p) (hi : i ≠ .init) (hdi : i ≠ .deinit) : (settle p).seq = s.seq ∨
    ((settle p).seq = .idle ∧ (ReturnedIoFailure (settle p) ∨
      ((settle p).busy = false ∧ (settle p).status = .protocolError))) := by
  cases h.ends with
  | goes hu => exact .inl (hu.seq hi hdi)
  | raised hu =>
    rcases hu with ⟨e, rfl, -⟩ | ⟨rfl, -⟩
    · exact .inr ⟨rfl, .inl (returnedIoFailure_takeFailure e _)⟩
    · exact .inr ⟨rfl, .inr ⟨rfl, rfl⟩⟩
  | hung hu => exact .inl (hu.seq hi hdi)

/-- The bus moves only where the transport is written to. -/
theorem Body.sameBus (h : Body i s p) (hdraws : (settle p).draws = s.draws) : SameBus s (settle p) := by
  cases h.ends with
  | goes hu =>
    obtain ⟨n, hwrote, hbus⟩ := hu.wrote
    have hn : n = 0 := by
      have hcount := hwrote.draws.symm.trans hdraws
      omega
    exact { hbus hn with }
  | raised hu =>
    rcases hu with ⟨e, -, hu⟩ | ⟨-, rfl, -⟩
    · obtain ⟨m, k, hbroke⟩ := hu.broke
      have hcount := hbroke.draws.symm.trans hdraws
      omega
    · exact ⟨rfl, rfl, rfl, rfl⟩
  | hung hu =>
    obtain ⟨m, hbroke⟩ := hu.broke
    have hcount := hbroke.draws.symm.trans hdraws
    omega

theorem settle_setGram_draws (m : Memory) (s : State) : (settle (.goes (setGram m s))).draws = s.draws := rfl

/-- REVERSE, REVERSE_ALL and TRANSFORM make no write. -/
theorem Body.draws_of_not_drivesBus (h : Body i s p) (hi : drivesBus i = false) : (settle p).draws = s.draws := by
  cases h with
  | @command _ op payload _ hf =>
    cases i with
    | reverse | reverseAll | transform => cases hf
    | _ => cases hi
  | buffer hb => cases (drivesBus_of_bufferOf hb).symm.trans hi
  | reverse | reverseAll => rfl
  | transform => exact settle_setGram_draws ..
  | showFrame | setBrightness | init | deinit => cases hi

theorem Body.status_of_busy (h : Body i s p) (hbusy : (settle p).busy = true) : (settle p).status = s.status := by
  cases h.ends with
  | goes hu => cases hbusy
  | raised hu => cases hbusy
  | hung hu => exact hu.status

end

/-- An operation that returns does not report REFUSED. -/
theorem settle_status_ne_refused {p : Progress} (hbusy : (settle p).busy = false) : (settle p).status ≠ .refused := by
  cases p with
  | goes u => exact nofun
  | raised f u => cases f <;> exact nofun
  | hung u => cases hbusy

/-- Settles O43, clause by clause of the table. -/
theorem eachRegisterHasItsWriters : Obligations.EachRegisterHasItsWriters := by
  intro i s t h
  obtain ⟨p, hp, rfl⟩ := exec_next h
  have hf := hp.frame
  refine ⟨fun hi hd => ⟨hf.lifecycle hi hd, hf.filEn hi hd⟩, hf.brightness, hf.result, hf.rstN, hf.desync,
    hp.desync_cases, hf.interrupted, hf.mended, hf.gram, hp.seq_cases, hp.draws_of_not_drivesBus, fun hdraws => ?_,
    hp.status_of_busy, settle_status_ne_refused, hf.config, hf.inputs⟩
  have hbus := hp.sameBus hdraws
  exact ⟨hbus.csN, hbus.sck, hbus.mosi, hbus.operands⟩

end Sys2Proof.Machine
end

section
/-! PROOFS. What no instruction reads: LIFECYCLE but by INIT and DEINIT (the spec's decision D13), DESYNC, the ghost
beside it and old GRAM (D24, D26). A change of state that no part of a transaction sees passes through it. -/

namespace Sys2Proof.Machine

open Sys2Proof.Claims

/-- A change of state that the primitives of a transaction neither see nor undo. -/
structure Unseen (g : State → State) : Prop where
  outcome (s : State) : nextOutcome (g s) = nextOutcome s
  tx (t : List Byte) (s : State) : tx t (g s) = g (tx t s)
  begins (natural : List Byte) (s : State) : beginTransaction natural (g s) = g (beginTransaction natural s)
  ends (s : State) : endTransaction (g s) = g (endTransaction s)

/-- The same progress with its state changed. -/
def Progress.map (g : State → State) : Progress → Progress
  | .goes s => .goes (g s)
  | .raised f s => .raised f (g s)
  | .hung s => .hung (g s)

theorem txAll_unseen {g : State → State} (hg : Unseen g) (parts : List (List Byte)) (s : State) :
    txAll parts (g s) = (txAll parts s).map g := by
  induction parts generalizing s with
  | nil => rfl
  | cons t rest ih =>
    rw [txAll, txAll, hg.outcome, hg.tx]
    cases nextOutcome s with
    | ok => exact ih (Machine.tx t s)
    | fail | never => rfl

theorem transaction_unseen {g : State → State} (hg : Unseen g) (parts : List (List Byte)) (s : State) :
    transaction parts (g s) =
      closeTransaction ((txAll (parts.map reverseAll) (beginTransaction parts.flatten s)).map g) := by
  rw [transaction, hg.begins, txAll_unseen hg]

/-! ### LIFECYCLE -/

theorem setLifecycle_unseen (l : Lifecycle) : Unseen (setLifecycle l) := by
  constructor <;> intros <;> rfl

theorem transaction_setLifecycle (l : Lifecycle) (parts : List (List Byte)) (s : State) :
    transaction parts (setLifecycle l s) = (transaction parts s).map (setLifecycle l) := by
  rw [transaction_unseen (setLifecycle_unseen l), transaction]
  cases txAll (parts.map reverseAll) (beginTransaction parts.flatten s) with
  | goes | raised | hung => rfl

theorem writeGram_setLifecycle (l : Lifecycle) (buf : List Byte) (xs ys : Byte) (s : State) :
    writeGram buf xs ys (setLifecycle l s) = (writeGram buf xs ys s).map (setLifecycle l) := by
  by_cases hlen : buf.length = gramBytes
  · rw [writeGram_eq hlen, writeGram_eq hlen, transaction_setLifecycle]
  · rw [writeGram_shape hlen, writeGram_shape hlen]
    rfl

theorem settle_map_setLifecycle (l : Lifecycle) (p : Progress) :
    settle (p.map (setLifecycle l)) = setLifecycle l (settle p) := by
  cases p with
  | goes | raised | hung => rfl

theorem setGram_setLifecycle (m : Memory) (l : Lifecycle) (s : State) :
    setGram m (setLifecycle l s) = setLifecycle l (setGram m s) := rfl

/-- Every instruction but INIT and DEINIT runs alike in every lifecycle state. -/
theorem Body.setLifecycle {i : Instr} {s : State} {p : Progress} (h : Body i s p) (hi : i ≠ .init)
    (hdi : i ≠ .deinit) (l : Lifecycle) :
    Body i (Machine.setLifecycle l s) (p.map (Machine.setLifecycle l)) := by
  cases h with
  | command h =>
    rw [sendCommand, ← transaction_setLifecycle]
    exact .command h
  | buffer h =>
    rw [← writeGram_setLifecycle]
    exact .buffer h
  | reverse => exact .reverse
  | reverseAll => exact .reverseAll
  | transform =>
    rw [Progress.map, ← setGram_setLifecycle]
    exact .transform
  | showFrame =>
    rw [writeOwnGram, ← writeGram_setLifecycle, ← setGram_setLifecycle]
    exact .showFrame
  | setBrightness =>
    rw [sendBrightness, sendCommand, ← transaction_setLifecycle]
    exact .setBrightness
  | init => exact absurd rfl hi
  | deinit => exact absurd rfl hdi

/-- Settles O45: the same operation, its state carrying the other lifecycle value. -/
theorem onlyInitAndDeinitReadLifecycle : Obligations.OnlyInitAndDeinitReadLifecycle := by
  intro i s l hi hdi
  obtain ⟨p, hp⟩ := exists_body_of_ne_init hi s
  refine ⟨settle p, hp.exec_eq, ?_⟩
  have hexec := (hp.setLifecycle hi hdi l).exec_eq
  rw [settle_map_setLifecycle] at hexec
  exact hexec

/-! ### DESYNC, the ghost and old GRAM -/

/-- The state with other values of DESYNC, the ghost beside it and GRAM. -/
def veil (d b : Bool) (m : Memory) (s : State) : State := { s with desync := d, interrupted := b, gram := m }

theorem veil_unseen (d b : Bool) (m : Memory) : Unseen (veil d b m) := by
  constructor <;> intros <;> rfl

/-- A progress under other values of the three; a failure of the transport sets DESYNC whatever it was. -/
def Progress.veil (d b : Bool) (m : Memory) : Progress → Progress
  | .goes s => .goes (Machine.veil d b m s)
  | .raised (.io e) s => .raised (.io e) (Machine.veil true b m s)
  | .raised .protocol s => .raised .protocol (Machine.veil d b m s)
  | .hung s => .hung (Machine.veil d b m s)

theorem transaction_veil (d b : Bool) (m : Memory) (parts : List (List Byte)) (s : State) :
    transaction parts (veil d b m s) = (transaction parts s).veil d b m := by
  have hio := txAll_noProtocolError (parts.map reverseAll) (beginTransaction parts.flatten s)
  rw [transaction_unseen (veil_unseen d b m), transaction]
  cases htx : txAll (parts.map reverseAll) (beginTransaction parts.flatten s) with
  | goes | hung => rfl
  | raised f u =>
    cases f with
    | io => rfl
    | protocol => exact absurd htx (hio u)

theorem sendCommand_veil (d b : Bool) (m : Memory) (op : Byte) (payload : List Byte) (s : State) :
    sendCommand op payload (veil d b m s) = (sendCommand op payload s).veil d b m := transaction_veil ..

theorem writeGram_veil (d b : Bool) (m : Memory) (buf : List Byte) (xs ys : Byte) (s : State) :
    writeGram buf xs ys (veil d b m s) = (writeGram buf xs ys s).veil d b m := by
  by_cases hlen : buf.length = gramBytes
  · rw [writeGram_eq hlen, writeGram_eq hlen, transaction_veil]
  · rw [writeGram_shape hlen, writeGram_shape hlen]
    rfl

theorem setGram_veil (d b : Bool) (m w : Memory) (s : State) :
    setGram w (veil d b m s) = veil d b w (setGram w s) := rfl

/-- A buffer that is written and sent hides what GRAM held. -/
theorem writeOwnGram_setGram_veil (d b : Bool) (m w : Memory) (s : State) :
    writeOwnGram (setGram w (veil d b m s)) = (writeOwnGram (setGram w s)).veil d b w := by
  rw [setGram_veil, writeOwnGram, writeGram_veil]
  rfl

section
variable {d b : Bool} {m : Memory}

theorem andThen_veil {f : State → Progress} (hf : ∀ u, f (veil d b m u) = (f u).veil d b m) (p : Progress) :
    (p.veil d b m).andThen f = (p.andThen f).veil d b m := by
  cases p with
  | goes u => exact hf u
  | raised e u => cases e <;> rfl
  | hung u => rfl

theorem initT2_veil (u : State) : initT2 (veil d b m u) = (initT2 u).veil d b m := by
  have hsend := sendCommand_veil d b m Command.reset.op [] (setSeq .t2SwReset u)
  exact (congrArg (Progress.andThen · _) hsend).trans (andThen_veil (fun _ => rfl) _)

theorem initT3a_veil (u : State) : initT3a (veil d b m u) = (initT3a u).veil d b m :=
  sendCommand_veil d b m _ _ (setSeq .t3aVfdMode u)

theorem initT3b_veil (u : State) : initT3b (veil d b m u) = (initT3b u).veil d b m :=
  sendCommand_veil d b m _ (brightnessPayload u.brightness) (setSeq .t3bBrightness u)

/-- T3C rewrites GRAM before it sends it. -/
theorem initT3c_veil (u : State) : initT3c (veil d b m u) = (initT3c u).veil d b clearFrame := by
  have hsend := writeOwnGram_setGram_veil d b m clearFrame (setSeq .t3cClear u)
  exact (congrArg (Progress.andThen · _) hsend).trans (andThen_veil (fun _ => rfl) _)

theorem initT3d_veil (u : State) : initT3d (veil d b m u) = (initT3d u).veil d b m :=
  sendCommand_veil d b m _ _ (setSeq .t3dOffset u)

theorem initT3e_veil (u : State) : initT3e (veil d b m u) = (initT3e u).veil d b m :=
  sendCommand_veil d b m _ _ (setSeq .t3eMode u)

theorem initT3f_veil (u : State) : initT3f (veil d b m u) = (initT3f u).veil d b m := by
  have hsend := sendCommand_veil d b m Command.osc.op [Config.oscCfg] (setSeq .t3fOsc u)
  exact (congrArg (Progress.andThen · _) hsend).trans (andThen_veil (fun _ => rfl) _)

/-- INIT up to the step that rewrites GRAM. -/
def initHead (s : State) : Progress := ((initT2 (initT1 s)).andThen initT3a).andThen initT3b

/-- INIT from the step that rewrites GRAM. -/
def initTail (s : State) : Progress :=
  (((initT3c s).andThen initT3d).andThen initT3e).andThen fun s => (initT3f s).andThen fun s => .goes (initT4 s)

theorem initSequence_eq (s : State) : initSequence s = (initHead s).andThen initTail := by
  rw [initSequence, ← initHead]
  cases initHead s with
  | goes u => rw [andThen_goes, andThen_goes, initTail]
  | raised f u => simp only [andThen_raised]
  | hung u => simp only [andThen_hung]

/-- T1 clears DESYNC and the ghost. -/
theorem initHead_veil (s : State) : initHead (veil d b m s) = (initHead s).veil false false m := by
  have hT1 : initT1 (veil d b m s) = veil false false m (initT1 s) := rfl
  rw [initHead, hT1, initT2_veil, andThen_veil initT3a_veil, andThen_veil initT3b_veil, initHead]

theorem initTail_veil (u : State) : initTail (veil d b m u) = (initTail u).veil d b clearFrame := by
  have hlast : ∀ u, ((initT3f (veil d b clearFrame u)).andThen fun s => .goes (initT4 s)) =
      ((initT3f u).andThen fun s => .goes (initT4 s)).veil d b clearFrame := fun u => by
    rw [initT3f_veil, andThen_veil fun _ => rfl]
  rw [initTail, initT3c_veil, andThen_veil initT3d_veil, andThen_veil initT3e_veil, andThen_veil hlast, initTail]

end

/-- INIT is the same but for GRAM, which it leaves alone if it stops before T3C and rewrites if it does not. -/
theorem initSequence_veil (s : State) : ∃ w : Option Memory, ∀ (d b : Bool) (m : Memory),
    initSequence (veil d b m s) = (initSequence s).veil false false (w.getD m) := by
  cases hhead : initHead s with
  | goes u =>
    refine ⟨some clearFrame, fun d b m => ?_⟩
    rw [initSequence_eq, initSequence_eq, initHead_veil, hhead, Progress.veil, andThen_goes, andThen_goes,
      initTail_veil, Option.getD_some]
  | raised f u =>
    refine ⟨none, fun d b m => ?_⟩
    rw [initSequence_eq, initSequence_eq, initHead_veil, hhead]
    cases f <;> rfl
  | hung u =>
    refine ⟨none, fun d b m => ?_⟩
    rw [initSequence_eq, initSequence_eq, initHead_veil, hhead]
    rfl

/-- The filament goes off and the command is sent whatever the three hold. -/
theorem deinitSequence_veil (d b : Bool) (m : Memory) (s : State) :
    deinitSequence (veil d b m s) = (deinitSequence s).veil d b m := by
  by_cases hl : s.lifecycle = .active
  · have hsend := sendCommand_veil d b m Command.enterStandby.op [] (setSeq .deStandby (filamentOff s))
    rw [deinitSequence_of_active hl, deinitSequence_of_active (s := veil d b m s) hl]
    exact (congrArg (Progress.andThen · _) hsend).trans (andThen_veil (fun _ => rfl) _)
  · rw [deinitSequence_of_ne_active hl, deinitSequence_of_ne_active (s := veil d b m s) hl]
    rfl

theorem rewritesGram_of_frameOf {i : Instr} {f : List Byte} (h : frameOf i = some f) : rewritesGram i = false := by
  cases i with
  | transform | showFrame | init => cases h
  | _ => rfl

theorem rewritesGram_of_bufferOf {i : Instr} {b : List Byte × Byte × Byte} (h : bufferOf i = some b) :
    rewritesGram i = false := by
  cases i with
  | transform | showFrame | init => cases h
  | _ => rfl

/-- An instruction other than INIT is the same operation under other values of the three, and `w` is the buffer it
writes, if it writes one. -/
theorem Body.veil {i : Instr} {s : State} {p : Progress} (h : Body i s p) (hi : i ≠ .init) :
    ∃ w : Option Memory, w.isSome = rewritesGram i ∧
      ∀ (d b : Bool) (m : Memory), Body i (Machine.veil d b m s) (p.veil d b (w.getD m)) := by
  cases h with
  | command h =>
    refine ⟨none, (rewritesGram_of_frameOf h).symm, fun d b m => ?_⟩
    rw [Option.getD_none, ← sendCommand_veil]
    exact .command h
  | buffer h =>
    refine ⟨none, (rewritesGram_of_bufferOf h).symm, fun d b m => ?_⟩
    rw [Option.getD_none, ← writeGram_veil]
    exact .buffer h
  | reverse => exact ⟨none, rfl, fun d b m => .reverse⟩
  | reverseAll => exact ⟨none, rfl, fun d b m => .reverseAll⟩
  | @transform c =>
    refine ⟨some (transformed c), rfl, fun d b m => ?_⟩
    rw [Option.getD_some, Progress.veil, ← setGram_veil d b m]
    exact .transform
  | @showFrame c =>
    refine ⟨some (transformed c), rfl, fun d b m => ?_⟩
    rw [Option.getD_some, ← writeOwnGram_setGram_veil d b m]
    exact .showFrame
  | setBrightness =>
    refine ⟨none, rfl, fun d b m => ?_⟩
    rw [Option.getD_none, sendBrightness, ← sendCommand_veil]
    exact .setBrightness
  | init => exact absurd rfl hi
  | deinit =>
    refine ⟨none, rfl, fun d b m => ?_⟩
    rw [Option.getD_none, ← deinitSequence_veil]
    exact .deinit

/-- What an operation writes to DESYNC behind T1: only a failure of the transport writes it. -/
def Progress.desyncWritten : Progress → Option Bool
  | .raised (.io _) _ => some true
  | _ => none

theorem settle_veil (d b : Bool) (m : Memory) (p : Progress) :
    settle (p.veil d b m) = veil (p.desyncWritten.getD d) b m (settle p) := by
  cases p with
  | goes | hung => rfl
  | raised f u => cases f <;> rfl

theorem desyncWritten_eq_some_iff (p : Progress) : p.desyncWritten = some true ↔ ReturnedIoFailure (settle p) := by
  constructor
  · intro h
    cases p with
    | goes | hung => cases h
    | raised f u =>
      cases f with
      | io e => exact returnedIoFailure_takeFailure e u
      | protocol => cases h
  · rintro ⟨hbusy, e, hstatus⟩
    obtain ⟨u, rfl⟩ := settle_eq_ioFailure hbusy hstatus
    rfl

theorem desyncWritten_ne_some_false (p : Progress) : p.desyncWritten ≠ some false := by
  unfold Progress.desyncWritten
  split <;> nofun

/-- Settles O46: `w` is the buffer of TRANSFORM, of SHOW or of T3C, and `x` is what a failure or T1 writes. -/
theorem desyncAndOldGramAreNeverRead : Obligations.DesyncAndOldGramAreNeverRead := by
  intro i s hstandby
  by_cases hi : i = .init
  · subst hi
    obtain ⟨w, hw⟩ := initSequence_veil s
    refine ⟨settle (initSequence s), w, some ((initSequence s).desyncWritten.getD false), fun d b m => ?_, nofun,
      fun _ h => absurd rfl h, ?_, fun h => absurd rfl h, nofun⟩
    · have hexec := exec_init (s := veil d b m s) (hstandby rfl)
      rw [hw, settle_veil] at hexec
      exact hexec
    · rw [← desyncWritten_eq_some_iff]
      have hne := desyncWritten_ne_some_false (initSequence s)
      revert hne
      generalize (initSequence s).desyncWritten = x
      revert x
      decide
  · obtain ⟨p, hp⟩ := exists_body_of_ne_init hi s
    obtain ⟨w, hsome, hw⟩ := hp.veil hi
    refine ⟨settle p, w, p.desyncWritten, fun d b m => ?_, fun h => ?_, fun h _ => hsome.trans h,
      desyncWritten_eq_some_iff p, fun _ => desyncWritten_ne_some_false p, fun h => absurd h hi⟩
    · have hexec := (hw d b m).exec_eq
      rw [settle_veil] at hexec
      rw [if_neg hi]
      exact hexec
    · rw [h] at hsome
      exact Option.not_isSome_iff_eq_none.1 (by rw [hsome]; decide)

end Sys2Proof.Machine
end
